-- ==== Sys2Proof/Word.lean ====
section
/-! DEFINITION. The two widths of the machine (spec/00_scope.md R6): general registers and memory cells are
8 bits wide, register pairs, SP, PC and addresses 16 bits. Every bit-field, sign-extension and byte-order helper
stands in Sys2Proof/Machine/Bits.lean. -/

namespace Sys2Proof

/-- An 8-bit register or memory cell (R6). -/
abbrev Byte := BitVec 8

/-- A 16-bit register pair, stack pointer, program counter or address (R6). -/
abbrev Word := BitVec 16

end Sys2Proof
end

