-- ==== Sys2Proof/Machine/Bits.lean ====
section
/-! DEFINITION. Bit fields, byte order and sign extension, in the notation of spec/00_scope.md section 5:
`v[i]`, `v[hi:lo]`, `hi ++ lo`, `sext_16`, `zext_16`. -/

namespace Sys2Proof.Machine

/-- The more significant byte `v[15:8]` of a 16-bit value. -/
def hiByte (v : Word) : Byte := v.extractLsb' 8 8

/-- The less significant byte `v[7:0]` of a 16-bit value. -/
def loByte (v : Word) : Byte := v.extractLsb' 0 8

/-- `hi ++ lo` of two bytes: `hi * 256 + lo` (spec/00_scope.md section 5; byte order R82, R146). -/
def cat (hi lo : Byte) : Word := hi ++ lo

/-- `sext_16(e)`: `e` if `e < 128`, else `e + 0xFF00` (spec/00_scope.md section 5, R145). -/
def sext16 (e : Byte) : Word := e.signExtend 16

/-- `zext_16(e)` (spec/00_scope.md section 5). -/
def zext16 (e : Byte) : Word := e.zeroExtend 16

/-- Bit `i` of a byte, `v[i]`, as a Bool. -/
def bit (v : Byte) (i : Nat) : Bool := v.getLsbD i

/-- A Bool as the number 0 or 1 (a carry-in, a bit in a sum). -/
def bitNat (b : Bool) : Nat := if b then 1 else 0

/-- The field `v[lo+len-1 : lo]` as an unsigned number. -/
def field (v : Byte) (lo len : Nat) : Nat := (v.toNat >>> lo) % 2 ^ len

/-- The byte with bit `i` set and every other bit clear, `1 << i`. -/
def bitMask (i : Nat) : Byte := 1#8 <<< i

/-- Apply `f` to `x`, `n` times over. -/
def iterate {α : Type} (f : α → α) : Nat → α → α
  | 0, x => x
  | n + 1, x => iterate f n (f x)

end Sys2Proof.Machine
end

