-- ==== Sys2Proof/Machine/Memory.lean ====
section
/-! DEFINITION. A stored image as plain data: a list of (address, byte) pairs in ONE canonical form, addresses
strictly rising and no entry equal to what an unlisted address reads as. The video RAM, work RAM, OAM, HRAM and
plain I/O bytes (R28), the external RAM, the cartridge image and the boot ROM (R29) are each one such list. -/

namespace Sys2Proof.Machine

/-- A stored image: its listed cells. -/
abbrev Memory := List Host.Cell

/-- What an unlisted address of a stored image reads as: 0x00, the reset contents of R72 and R500 step 3. -/
def Memory.unlisted : Byte := 0x00#8

/-- The byte an image holds at an address. -/
def Memory.read : Memory → Nat → Byte
  | [], _ => Memory.unlisted
  | (k, v) :: m, a => if k = a then v else Memory.read m a

/-- The image with `v` at address `a`; writing the unlisted value removes the entry, so the canonical form stays. -/
def Memory.write : Memory → Nat → Byte → Memory
  | [], a, v => if v = Memory.unlisted then [] else [(a, v)]
  | (k, w) :: m, a, v =>
    if a < k then (if v = Memory.unlisted then (k, w) :: m else (a, v) :: (k, w) :: m)
    else if a = k then (if v = Memory.unlisted then m else (k, v) :: m)
    else (k, w) :: Memory.write m a v

/-- The canonical form of an image whose addresses all are `lo` or more. -/
def Memory.wfFrom : Nat → Memory → Bool
  | _, [] => true
  | lo, (k, v) :: m => decide (lo ≤ k) && decide (v ≠ Memory.unlisted) && Memory.wfFrom (k + 1) m

/-- The canonical form: addresses strictly rising, no entry equal to the unlisted value. -/
def Memory.wf (m : Memory) : Bool := Memory.wfFrom 0 m

end Sys2Proof.Machine
end

