-- ==== Sys2Proof/Config.lean ====
section
/-! DEFINITION. What is fixed for one machine and is an argument of its construction (spec/00_scope.md R7,
spec/60_exceptions.md R383): the named parameters, the cartridge image and the boot ROM. A State carries its own
parameters and images, and no step changes them. Nothing in this machine is unpredictable (R520), so there is no
free value. -/

namespace Sys2Proof

open Machine (Memory)

/-- The parameters of R7 that have a default (CART, BOOT_ROM and SKIP_BOOT are arguments of the reset). -/
structure Params where
  /-- `AF_RESET`, the AF value of a skip-boot reset (R70). -/
  afReset : Word
  /-- `EI_DELAY = 1` (R334). -/
  eiDelay : Bool
  /-- `INT_DISPATCH_CYCLES` (R354). -/
  intDispatchCycles : Nat
  /-- `DMA_CYCLES` (R106). -/
  dmaCycles : Nat
  /-- `DMA_MAX_PAGE` (R105). -/
  dmaMaxPage : Byte
  /-- `DMA_EXEMPT` (R107), a predicate on addresses, as the list of the ranges it holds on, first and last address of each:
  any set of addresses is such a list. -/
  dmaExempt : List (Word × Word)
  /-- `BLOCKED_READ` (R107). -/
  blockedRead : Byte
  /-- `CLOCK_HZ` (R8). -/
  clockHz : Nat
  /-- `SAMPLE_RATE` (R470). -/
  sampleRate : Nat
  /-- `AUDIO_BUF_SAMPLES` (R470). -/
  audioBufSamples : Nat
  deriving DecidableEq, Repr

/-- The defaults of R7. -/
def Params.default : Params where
  afReset := 0x01B0#16
  eiDelay := false
  intDispatchCycles := 20
  dmaCycles := 160
  dmaMaxPage := 0xF1#8
  dmaExempt := [(0xFF80#16, 0xFFFE#16)]
  blockedRead := 0xFF#8
  clockHz := 4194304
  sampleRate := 44100
  audioBufSamples := 1024

/-- `SAMPLE_PERIOD = CLOCK_HZ / SAMPLE_RATE` rounded down (R470). -/
def Params.samplePeriod (p : Params) : Nat := p.clockHz / p.sampleRate

/-- `CART`, the cartridge image (R29): its length and its bytes, those not listed being 0x00. -/
structure Cart where
  len : Nat
  bytes : Memory
  deriving DecidableEq, Repr

/-- The cartridge the unit vectors of spec/95_test_vectors.md section 2.0 use: ROM_ONLY, 0x8000 zero bytes. -/
def Cart.blank : Cart where
  len := 0x8000
  bytes := []

end Sys2Proof
end

