-- ==== Sys2Proof/WellFormed.lean ====
section
/-! DEFINITION. What the machine is built from, checked: an instruction, the parameters, the cartridge image and
the boot ROM. An instruction has nothing to check beyond its types: its operands are exactly the 8 or 16 bits the
encoding gives them, and no assigned instruction has a reserved field (R153), so every term of `Instr` is an
instruction of the machine. The ranges of the parameters are those of R7, those of the images R7, R29, R383. -/

namespace Sys2Proof

/-- Every term of `Instr` is well formed: its operand types admit exactly the encoding's values (R140, R153). -/
def Instr.wellFormed (_ : Instr) : Bool := true

/-- The parameters lie in the ranges R7 gives them: AF_RESET is one of two values, AUDIO_BUF_SAMPLES 1024 to 4096,
a sample period of at least one cycle; and a dispatch costs no less than its two pushes charge (R354, R371). -/
def Params.wellFormed (p : Params) : Bool :=
  (p.afReset == 0x01B0#16 || p.afReset == 0x0180#16)
  && decide (8 ≤ p.intDispatchCycles)
  && decide (1 ≤ p.dmaCycles)
  && decide (1 ≤ p.samplePeriod)
  && decide (1024 ≤ p.audioBufSamples) && decide (p.audioBufSamples ≤ 4096)

/-- The cells of an image all lie below `len`. -/
def imageWithin (len : Nat) (m : Machine.Memory) : Bool := m.all fun c => decide (c.1 < len)

/-- A cartridge image is 1 to 2^21 bytes long (R7), in canonical form and listed within its length. -/
def Cart.wellFormed (c : Cart) : Bool :=
  decide (1 ≤ c.len) && decide (c.len ≤ 0x200000) && Machine.Memory.wf c.bytes && imageWithin c.len c.bytes

/-- A boot ROM has 256 bytes (R7). -/
def bootRomWellFormed (m : Machine.Memory) : Bool := Machine.Memory.wf m && imageWithin 0x100 m

end Sys2Proof
end

