-- ==== Sys2Proof/Decode.lean ====
section
/-! DEFINITION. Decoding and encoding. The decoder follows the pattern tables of spec/30_encoding.md: the fields
of R143, the selectors of R144, the first-level map of R150 and the second-level map of R151. The encoder gives the
words of each row of spec/opcode_table.json, written out separately from the decoder's patterns. -/

namespace Sys2Proof

open Machine (cat hiByte loByte)

/-! ### Fields and selectors (R143, R144) -/

/-- A three-bit field as a selector. -/
def sel3 : Nat → Sel3
  | 0 => .v0 | 1 => .v1 | 2 => .v2 | 3 => .v3 | 4 => .v4 | 5 => .v5 | 6 => .v6 | _ => .v7

/-- The number a three-bit selector stands for. -/
def Sel3.num : Sel3 → Nat
  | .v0 => 0 | .v1 => 1 | .v2 => 2 | .v3 => 3 | .v4 => 4 | .v5 => 5 | .v6 => 6 | .v7 => 7

/-- `x = op[7:6]` (R143). -/
def fieldX (op : Byte) : Nat := Machine.field op 6 2

/-- `y = op[5:3]` (R143). -/
def fieldY (op : Byte) : Sel3 := sel3 (Machine.field op 3 3)

/-- `z = op[2:0]` (R143). -/
def fieldZ (op : Byte) : Sel3 := sel3 (Machine.field op 0 3)

/-- An `R8` selector: a register, or the memory byte at HL for the value 6 (R144). -/
inductive R8Operand where
  | reg (r : Reg8)
  | memHl
  deriving DecidableEq, Repr

/-- The column `R8[v]` of R144. -/
def selR8 : Sel3 → R8Operand
  | .v0 => .reg .b | .v1 => .reg .c | .v2 => .reg .d | .v3 => .reg .e
  | .v4 => .reg .h | .v5 => .reg .l | .v6 => .memHl | .v7 => .reg .a

/-- The column `ALU[v]` of R144. -/
def selAlu : Sel3 → AluOp
  | .v0 => .add | .v1 => .adc | .v2 => .sub | .v3 => .sbc | .v4 => .and | .v5 => .xor | .v6 => .or | .v7 => .cp

/-- The column `ROT[v]` of R144. -/
def selRot : Sel3 → RotOp
  | .v0 => .rlc | .v1 => .rrc | .v2 => .rl | .v3 => .rr | .v4 => .sla | .v5 => .sra | .v6 => .swap | .v7 => .srl

/-! ### The instructions of one pattern of R150 or R151, by the operands its fields select -/

/-- `LD r,r'` (R170): destination, source. -/
def ldRegReg : Reg8 → Reg8 → Instr
  | .b, .b => .ld_b_b | .b, .c => .ld_b_c | .b, .d => .ld_b_d | .b, .e => .ld_b_e | .b, .h => .ld_b_h | .b, .l => .ld_b_l | .b, .a => .ld_b_a
  | .c, .b => .ld_c_b | .c, .c => .ld_c_c | .c, .d => .ld_c_d | .c, .e => .ld_c_e | .c, .h => .ld_c_h | .c, .l => .ld_c_l | .c, .a => .ld_c_a
  | .d, .b => .ld_d_b | .d, .c => .ld_d_c | .d, .d => .ld_d_d | .d, .e => .ld_d_e | .d, .h => .ld_d_h | .d, .l => .ld_d_l | .d, .a => .ld_d_a
  | .e, .b => .ld_e_b | .e, .c => .ld_e_c | .e, .d => .ld_e_d | .e, .e => .ld_e_e | .e, .h => .ld_e_h | .e, .l => .ld_e_l | .e, .a => .ld_e_a
  | .h, .b => .ld_h_b | .h, .c => .ld_h_c | .h, .d => .ld_h_d | .h, .e => .ld_h_e | .h, .h => .ld_h_h | .h, .l => .ld_h_l | .h, .a => .ld_h_a
  | .l, .b => .ld_l_b | .l, .c => .ld_l_c | .l, .d => .ld_l_d | .l, .e => .ld_l_e | .l, .h => .ld_l_h | .l, .l => .ld_l_l | .l, .a => .ld_l_a
  | .a, .b => .ld_a_b | .a, .c => .ld_a_c | .a, .d => .ld_a_d | .a, .e => .ld_a_e | .a, .h => .ld_a_h | .a, .l => .ld_a_l | .a, .a => .ld_a_a

/-- `LD r,n` (R171). -/
def ldRegImm : Reg8 → Byte → Instr
  | .b, n => .ld_b_n n | .c, n => .ld_c_n n | .d, n => .ld_d_n n | .e, n => .ld_e_n n | .h, n => .ld_h_n n | .l, n => .ld_l_n n | .a, n => .ld_a_n n

/-- `LD r,(HL)` (R172). -/
def ldRegHl : Reg8 → Instr
  | .b => .ld_b_mHl | .c => .ld_c_mHl | .d => .ld_d_mHl | .e => .ld_e_mHl | .h => .ld_h_mHl | .l => .ld_l_mHl | .a => .ld_a_mHl

/-- `LD (HL),r` (R173). -/
def ldHlReg : Reg8 → Instr
  | .b => .ld_mHl_b | .c => .ld_mHl_c | .d => .ld_mHl_d | .e => .ld_mHl_e | .h => .ld_mHl_h | .l => .ld_mHl_l | .a => .ld_mHl_a

/-- `LD rr,nn` (R200). -/
def ldPairImm : Reg16 → Word → Instr
  | .bc, nn => .ld_bc_nn nn | .de, nn => .ld_de_nn nn | .hl, nn => .ld_hl_nn nn | .sp, nn => .ld_sp_nn nn

/-- `PUSH rr` (R206). -/
def pushPair : StackPair → Instr
  | .bc => .push_bc | .de => .push_de | .hl => .push_hl | .af => .push_af

/-- `POP rr` (R207). -/
def popPair : StackPair → Instr
  | .bc => .pop_bc | .de => .pop_de | .hl => .pop_hl | .af => .pop_af

/-- `ALU[op] R8[s]` (R218): operation, register. -/
def aluReg : AluOp → Reg8 → Instr
  | .add, .b => .add_a_b | .add, .c => .add_a_c | .add, .d => .add_a_d | .add, .e => .add_a_e | .add, .h => .add_a_h | .add, .l => .add_a_l | .add, .a => .add_a_a
  | .adc, .b => .adc_a_b | .adc, .c => .adc_a_c | .adc, .d => .adc_a_d | .adc, .e => .adc_a_e | .adc, .h => .adc_a_h | .adc, .l => .adc_a_l | .adc, .a => .adc_a_a
  | .sub, .b => .sub_b | .sub, .c => .sub_c | .sub, .d => .sub_d | .sub, .e => .sub_e | .sub, .h => .sub_h | .sub, .l => .sub_l | .sub, .a => .sub_a
  | .sbc, .b => .sbc_a_b | .sbc, .c => .sbc_a_c | .sbc, .d => .sbc_a_d | .sbc, .e => .sbc_a_e | .sbc, .h => .sbc_a_h | .sbc, .l => .sbc_a_l | .sbc, .a => .sbc_a_a
  | .and, .b => .and_b | .and, .c => .and_c | .and, .d => .and_d | .and, .e => .and_e | .and, .h => .and_h | .and, .l => .and_l | .and, .a => .and_a
  | .xor, .b => .xor_b | .xor, .c => .xor_c | .xor, .d => .xor_d | .xor, .e => .xor_e | .xor, .h => .xor_h | .xor, .l => .xor_l | .xor, .a => .xor_a
  | .or, .b => .or_b | .or, .c => .or_c | .or, .d => .or_d | .or, .e => .or_e | .or, .h => .or_h | .or, .l => .or_l | .or, .a => .or_a
  | .cp, .b => .cp_b | .cp, .c => .cp_c | .cp, .d => .cp_d | .cp, .e => .cp_e | .cp, .h => .cp_h | .cp, .l => .cp_l | .cp, .a => .cp_a

/-- `ALU[op] (HL)` (R218). -/
def aluHl : AluOp → Instr
  | .add => .add_a_mHl | .adc => .adc_a_mHl | .sub => .sub_mHl | .sbc => .sbc_a_mHl
  | .and => .and_mHl | .xor => .xor_mHl | .or => .or_mHl | .cp => .cp_mHl

/-- `ALU[op] n` (R218). -/
def aluImm : AluOp → Byte → Instr
  | .add, n => .add_a_n n | .adc, n => .adc_a_n n | .sub, n => .sub_n n | .sbc, n => .sbc_a_n n
  | .and, n => .and_n n | .xor, n => .xor_n n | .or, n => .or_n n | .cp, n => .cp_n n

/-- `INC r` (R244). -/
def incReg : Reg8 → Instr
  | .b => .inc_b | .c => .inc_c | .d => .inc_d | .e => .inc_e | .h => .inc_h | .l => .inc_l | .a => .inc_a

/-- `DEC r` (R246). -/
def decReg : Reg8 → Instr
  | .b => .dec_b | .c => .dec_c | .d => .dec_d | .e => .dec_e | .h => .dec_h | .l => .dec_l | .a => .dec_a

/-- `ADD HL,rr` (R270). -/
def addHlPair : Reg16 → Instr
  | .bc => .add_hl_bc | .de => .add_hl_de | .hl => .add_hl_hl | .sp => .add_hl_sp

/-- `INC rr` (R271). -/
def incPair : Reg16 → Instr
  | .bc => .inc_bc | .de => .inc_de | .hl => .inc_hl | .sp => .inc_sp

/-- `DEC rr` (R272). -/
def decPair : Reg16 → Instr
  | .bc => .dec_bc | .de => .dec_de | .hl => .dec_hl | .sp => .dec_sp

/-- `ROT[op] R8[z]` (R151): operation, register. -/
def rotReg : RotOp → Reg8 → Instr
  | .rlc, .b => .rlc_b | .rlc, .c => .rlc_c | .rlc, .d => .rlc_d | .rlc, .e => .rlc_e | .rlc, .h => .rlc_h | .rlc, .l => .rlc_l | .rlc, .a => .rlc_a
  | .rrc, .b => .rrc_b | .rrc, .c => .rrc_c | .rrc, .d => .rrc_d | .rrc, .e => .rrc_e | .rrc, .h => .rrc_h | .rrc, .l => .rrc_l | .rrc, .a => .rrc_a
  | .rl, .b => .rl_b | .rl, .c => .rl_c | .rl, .d => .rl_d | .rl, .e => .rl_e | .rl, .h => .rl_h | .rl, .l => .rl_l | .rl, .a => .rl_a
  | .rr, .b => .rr_b | .rr, .c => .rr_c | .rr, .d => .rr_d | .rr, .e => .rr_e | .rr, .h => .rr_h | .rr, .l => .rr_l | .rr, .a => .rr_a
  | .sla, .b => .sla_b | .sla, .c => .sla_c | .sla, .d => .sla_d | .sla, .e => .sla_e | .sla, .h => .sla_h | .sla, .l => .sla_l | .sla, .a => .sla_a
  | .sra, .b => .sra_b | .sra, .c => .sra_c | .sra, .d => .sra_d | .sra, .e => .sra_e | .sra, .h => .sra_h | .sra, .l => .sra_l | .sra, .a => .sra_a
  | .swap, .b => .swap_b | .swap, .c => .swap_c | .swap, .d => .swap_d | .swap, .e => .swap_e | .swap, .h => .swap_h | .swap, .l => .swap_l | .swap, .a => .swap_a
  | .srl, .b => .srl_b | .srl, .c => .srl_c | .srl, .d => .srl_d | .srl, .e => .srl_e | .srl, .h => .srl_h | .srl, .l => .srl_l | .srl, .a => .srl_a

/-- `ROT[op] (HL)` (R151). -/
def rotHl : RotOp → Instr
  | .rlc => .rlc_mHl | .rrc => .rrc_mHl | .rl => .rl_mHl | .rr => .rr_mHl | .sla => .sla_mHl | .sra => .sra_mHl | .swap => .swap_mHl | .srl => .srl_mHl

/-- `BIT b,r` (R301): bit number, register. -/
def bitReg : Sel3 → Reg8 → Instr
  | .v0, .b => .bit_0_b | .v0, .c => .bit_0_c | .v0, .d => .bit_0_d | .v0, .e => .bit_0_e | .v0, .h => .bit_0_h | .v0, .l => .bit_0_l | .v0, .a => .bit_0_a
  | .v1, .b => .bit_1_b | .v1, .c => .bit_1_c | .v1, .d => .bit_1_d | .v1, .e => .bit_1_e | .v1, .h => .bit_1_h | .v1, .l => .bit_1_l | .v1, .a => .bit_1_a
  | .v2, .b => .bit_2_b | .v2, .c => .bit_2_c | .v2, .d => .bit_2_d | .v2, .e => .bit_2_e | .v2, .h => .bit_2_h | .v2, .l => .bit_2_l | .v2, .a => .bit_2_a
  | .v3, .b => .bit_3_b | .v3, .c => .bit_3_c | .v3, .d => .bit_3_d | .v3, .e => .bit_3_e | .v3, .h => .bit_3_h | .v3, .l => .bit_3_l | .v3, .a => .bit_3_a
  | .v4, .b => .bit_4_b | .v4, .c => .bit_4_c | .v4, .d => .bit_4_d | .v4, .e => .bit_4_e | .v4, .h => .bit_4_h | .v4, .l => .bit_4_l | .v4, .a => .bit_4_a
  | .v5, .b => .bit_5_b | .v5, .c => .bit_5_c | .v5, .d => .bit_5_d | .v5, .e => .bit_5_e | .v5, .h => .bit_5_h | .v5, .l => .bit_5_l | .v5, .a => .bit_5_a
  | .v6, .b => .bit_6_b | .v6, .c => .bit_6_c | .v6, .d => .bit_6_d | .v6, .e => .bit_6_e | .v6, .h => .bit_6_h | .v6, .l => .bit_6_l | .v6, .a => .bit_6_a
  | .v7, .b => .bit_7_b | .v7, .c => .bit_7_c | .v7, .d => .bit_7_d | .v7, .e => .bit_7_e | .v7, .h => .bit_7_h | .v7, .l => .bit_7_l | .v7, .a => .bit_7_a

/-- `BIT b,(HL)` (R302). -/
def bitHl : Sel3 → Instr
  | .v0 => .bit_0_mHl | .v1 => .bit_1_mHl | .v2 => .bit_2_mHl | .v3 => .bit_3_mHl
  | .v4 => .bit_4_mHl | .v5 => .bit_5_mHl | .v6 => .bit_6_mHl | .v7 => .bit_7_mHl

/-- `RES b,r` (R303): bit number, register. -/
def resReg : Sel3 → Reg8 → Instr
  | .v0, .b => .res_0_b | .v0, .c => .res_0_c | .v0, .d => .res_0_d | .v0, .e => .res_0_e | .v0, .h => .res_0_h | .v0, .l => .res_0_l | .v0, .a => .res_0_a
  | .v1, .b => .res_1_b | .v1, .c => .res_1_c | .v1, .d => .res_1_d | .v1, .e => .res_1_e | .v1, .h => .res_1_h | .v1, .l => .res_1_l | .v1, .a => .res_1_a
  | .v2, .b => .res_2_b | .v2, .c => .res_2_c | .v2, .d => .res_2_d | .v2, .e => .res_2_e | .v2, .h => .res_2_h | .v2, .l => .res_2_l | .v2, .a => .res_2_a
  | .v3, .b => .res_3_b | .v3, .c => .res_3_c | .v3, .d => .res_3_d | .v3, .e => .res_3_e | .v3, .h => .res_3_h | .v3, .l => .res_3_l | .v3, .a => .res_3_a
  | .v4, .b => .res_4_b | .v4, .c => .res_4_c | .v4, .d => .res_4_d | .v4, .e => .res_4_e | .v4, .h => .res_4_h | .v4, .l => .res_4_l | .v4, .a => .res_4_a
  | .v5, .b => .res_5_b | .v5, .c => .res_5_c | .v5, .d => .res_5_d | .v5, .e => .res_5_e | .v5, .h => .res_5_h | .v5, .l => .res_5_l | .v5, .a => .res_5_a
  | .v6, .b => .res_6_b | .v6, .c => .res_6_c | .v6, .d => .res_6_d | .v6, .e => .res_6_e | .v6, .h => .res_6_h | .v6, .l => .res_6_l | .v6, .a => .res_6_a
  | .v7, .b => .res_7_b | .v7, .c => .res_7_c | .v7, .d => .res_7_d | .v7, .e => .res_7_e | .v7, .h => .res_7_h | .v7, .l => .res_7_l | .v7, .a => .res_7_a

/-- `RES b,(HL)` (R304). -/
def resHl : Sel3 → Instr
  | .v0 => .res_0_mHl | .v1 => .res_1_mHl | .v2 => .res_2_mHl | .v3 => .res_3_mHl
  | .v4 => .res_4_mHl | .v5 => .res_5_mHl | .v6 => .res_6_mHl | .v7 => .res_7_mHl

/-- `SET b,r` (R305): bit number, register. -/
def setReg : Sel3 → Reg8 → Instr
  | .v0, .b => .set_0_b | .v0, .c => .set_0_c | .v0, .d => .set_0_d | .v0, .e => .set_0_e | .v0, .h => .set_0_h | .v0, .l => .set_0_l | .v0, .a => .set_0_a
  | .v1, .b => .set_1_b | .v1, .c => .set_1_c | .v1, .d => .set_1_d | .v1, .e => .set_1_e | .v1, .h => .set_1_h | .v1, .l => .set_1_l | .v1, .a => .set_1_a
  | .v2, .b => .set_2_b | .v2, .c => .set_2_c | .v2, .d => .set_2_d | .v2, .e => .set_2_e | .v2, .h => .set_2_h | .v2, .l => .set_2_l | .v2, .a => .set_2_a
  | .v3, .b => .set_3_b | .v3, .c => .set_3_c | .v3, .d => .set_3_d | .v3, .e => .set_3_e | .v3, .h => .set_3_h | .v3, .l => .set_3_l | .v3, .a => .set_3_a
  | .v4, .b => .set_4_b | .v4, .c => .set_4_c | .v4, .d => .set_4_d | .v4, .e => .set_4_e | .v4, .h => .set_4_h | .v4, .l => .set_4_l | .v4, .a => .set_4_a
  | .v5, .b => .set_5_b | .v5, .c => .set_5_c | .v5, .d => .set_5_d | .v5, .e => .set_5_e | .v5, .h => .set_5_h | .v5, .l => .set_5_l | .v5, .a => .set_5_a
  | .v6, .b => .set_6_b | .v6, .c => .set_6_c | .v6, .d => .set_6_d | .v6, .e => .set_6_e | .v6, .h => .set_6_h | .v6, .l => .set_6_l | .v6, .a => .set_6_a
  | .v7, .b => .set_7_b | .v7, .c => .set_7_c | .v7, .d => .set_7_d | .v7, .e => .set_7_e | .v7, .h => .set_7_h | .v7, .l => .set_7_l | .v7, .a => .set_7_a

/-- `SET b,(HL)` (R306). -/
def setHl : Sel3 → Instr
  | .v0 => .set_0_mHl | .v1 => .set_1_mHl | .v2 => .set_2_mHl | .v3 => .set_3_mHl
  | .v4 => .set_4_mHl | .v5 => .set_5_mHl | .v6 => .set_6_mHl | .v7 => .set_7_mHl

/-- `JP cc,nn` (R313). -/
def jpCond : Cond → Word → Instr
  | .nz, nn => .jp_nz_nn nn | .z, nn => .jp_z_nn nn | .nc, nn => .jp_nc_nn nn | .c, nn => .jp_c_nn nn

/-- `JR cc,e` (R314). -/
def jrCond : Cond → Byte → Instr
  | .nz, e => .jr_nz_e e | .z, e => .jr_z_e e | .nc, e => .jr_nc_e e | .c, e => .jr_c_e e

/-- `CALL cc,nn` (R317). -/
def callCond : Cond → Word → Instr
  | .nz, nn => .call_nz_nn nn | .z, nn => .call_z_nn nn | .nc, nn => .call_nc_nn nn | .c, nn => .call_c_nn nn

/-- `RET cc` (R321). -/
def retCond : Cond → Instr
  | .nz => .ret_nz | .z => .ret_z | .nc => .ret_nc | .c => .ret_c

/-- `RST t` (R325), by its target field ttt. -/
def rstTo : Sel3 → Instr
  | .v0 => .rst_00 | .v1 => .rst_08 | .v2 => .rst_10 | .v3 => .rst_18 | .v4 => .rst_20 | .v5 => .rst_28 | .v6 => .rst_30 | .v7 => .rst_38

/-! ### The two maps -/

/-- The first-level map of R150, for a byte other than the prefix 0xCB, with the bytes at the next two addresses
(used by the formats that have operand bytes, R140). -/
def decodeBase (op b1 b2 : Byte) : Instr :=
  match fieldX op, fieldZ op, fieldY op with
  -- 00yyyzzz
  | 0, .v0, .v0 => .nop
  | 0, .v0, .v1 => .ld_mNn_sp (cat b2 b1)
  | 0, .v0, .v2 => .stop b1
  | 0, .v0, .v3 => .jr_e b1
  | 0, .v0, .v4 => jrCond .nz b1
  | 0, .v0, .v5 => jrCond .z b1
  | 0, .v0, .v6 => jrCond .nc b1
  | 0, .v0, .v7 => jrCond .c b1
  | 0, .v1, .v0 => ldPairImm .bc (cat b2 b1)
  | 0, .v1, .v1 => addHlPair .bc
  | 0, .v1, .v2 => ldPairImm .de (cat b2 b1)
  | 0, .v1, .v3 => addHlPair .de
  | 0, .v1, .v4 => ldPairImm .hl (cat b2 b1)
  | 0, .v1, .v5 => addHlPair .hl
  | 0, .v1, .v6 => ldPairImm .sp (cat b2 b1)
  | 0, .v1, .v7 => addHlPair .sp
  | 0, .v2, .v0 => .ld_mBc_a
  | 0, .v2, .v1 => .ld_a_mBc
  | 0, .v2, .v2 => .ld_mDe_a
  | 0, .v2, .v3 => .ld_a_mDe
  | 0, .v2, .v4 => .ld_mHli_a
  | 0, .v2, .v5 => .ld_a_mHli
  | 0, .v2, .v6 => .ld_mHld_a
  | 0, .v2, .v7 => .ld_a_mHld
  | 0, .v3, .v0 => incPair .bc
  | 0, .v3, .v1 => decPair .bc
  | 0, .v3, .v2 => incPair .de
  | 0, .v3, .v3 => decPair .de
  | 0, .v3, .v4 => incPair .hl
  | 0, .v3, .v5 => decPair .hl
  | 0, .v3, .v6 => incPair .sp
  | 0, .v3, .v7 => decPair .sp
  | 0, .v4, y => match selR8 y with
    | .reg r => incReg r
    | .memHl => .inc_mHl
  | 0, .v5, y => match selR8 y with
    | .reg r => decReg r
    | .memHl => .dec_mHl
  | 0, .v6, y => match selR8 y with
    | .reg r => ldRegImm r b1
    | .memHl => .ld_mHl_n b1
  | 0, .v7, .v0 => .rlca
  | 0, .v7, .v1 => .rrca
  | 0, .v7, .v2 => .rla
  | 0, .v7, .v3 => .rra
  | 0, .v7, .v4 => .daa
  | 0, .v7, .v5 => .cpl
  | 0, .v7, .v6 => .scf
  | 0, .v7, .v7 => .ccf
  -- 01dddsss
  | 1, z, y => match selR8 y, selR8 z with
    | .reg rd, .reg rs => ldRegReg rd rs
    | .reg rd, .memHl => ldRegHl rd
    | .memHl, .reg rs => ldHlReg rs
    | .memHl, .memHl => .halt
  -- 10aaasss
  | 2, z, y => match selR8 z with
    | .reg r => aluReg (selAlu y) r
    | .memHl => aluHl (selAlu y)
  -- 11yyyzzz
  | _, .v0, .v0 => retCond .nz
  | _, .v0, .v1 => retCond .z
  | _, .v0, .v2 => retCond .nc
  | _, .v0, .v3 => retCond .c
  | _, .v0, .v4 => .ldh_mN_a b1
  | _, .v0, .v5 => .add_sp_e b1
  | _, .v0, .v6 => .ldh_a_mN b1
  | _, .v0, .v7 => .ld_hl_spE b1
  | _, .v1, .v0 => popPair .bc
  | _, .v1, .v1 => .ret
  | _, .v1, .v2 => popPair .de
  | _, .v1, .v3 => .reti
  | _, .v1, .v4 => popPair .hl
  | _, .v1, .v5 => .jp_hl
  | _, .v1, .v6 => popPair .af
  | _, .v1, .v7 => .ld_sp_hl
  | _, .v2, .v0 => jpCond .nz (cat b2 b1)
  | _, .v2, .v1 => jpCond .z (cat b2 b1)
  | _, .v2, .v2 => jpCond .nc (cat b2 b1)
  | _, .v2, .v3 => jpCond .c (cat b2 b1)
  | _, .v2, .v4 => .ldh_mC_a
  | _, .v2, .v5 => .ld_mNn_a (cat b2 b1)
  | _, .v2, .v6 => .ldh_a_mC
  | _, .v2, .v7 => .ld_a_mNn (cat b2 b1)
  | _, .v3, .v0 => .jp_nn (cat b2 b1)
  | _, .v3, .v1 => .nop -- the prefix 0xCB, never looked up here (decodeOp, R147)
  | _, .v3, .v2 => .unassigned_d3
  | _, .v3, .v3 => .unassigned_db
  | _, .v3, .v4 => .unassigned_e3
  | _, .v3, .v5 => .unassigned_eb
  | _, .v3, .v6 => .di
  | _, .v3, .v7 => .ei
  | _, .v4, .v0 => callCond .nz (cat b2 b1)
  | _, .v4, .v1 => callCond .z (cat b2 b1)
  | _, .v4, .v2 => callCond .nc (cat b2 b1)
  | _, .v4, .v3 => callCond .c (cat b2 b1)
  | _, .v4, .v4 => .unassigned_e4
  | _, .v4, .v5 => .unassigned_ec
  | _, .v4, .v6 => .unassigned_f4
  | _, .v4, .v7 => .unassigned_fc
  | _, .v5, .v0 => pushPair .bc
  | _, .v5, .v1 => .call_nn (cat b2 b1)
  | _, .v5, .v2 => pushPair .de
  | _, .v5, .v3 => .unassigned_dd
  | _, .v5, .v4 => pushPair .hl
  | _, .v5, .v5 => .unassigned_ed
  | _, .v5, .v6 => pushPair .af
  | _, .v5, .v7 => .unassigned_fd
  | _, .v6, y => aluImm (selAlu y) b1
  | _, .v7, y => rstTo y

/-- The second-level map of R151. -/
def decodeCb (op2 : Byte) : Instr :=
  match fieldX op2, selR8 (fieldZ op2) with
  | 0, .reg r => rotReg (selRot (fieldY op2)) r
  | 0, .memHl => rotHl (selRot (fieldY op2))
  | 1, .reg r => bitReg (fieldY op2) r
  | 1, .memHl => bitHl (fieldY op2)
  | 2, .reg r => resReg (fieldY op2) r
  | 2, .memHl => resHl (fieldY op2)
  | _, .reg r => setReg (fieldY op2) r
  | _, .memHl => setHl (fieldY op2)

/-- The prefix byte of the second-level map (R335). -/
def prefixCb : Byte := 0xCB#8

/-- The instruction that begins with the byte `op` and whose next two bytes are `b1` and `b2` (R147). -/
def decodeOp (op b1 b2 : Byte) : Instr :=
  if op = prefixCb then decodeCb b1 else decodeBase op b1 b2

/-- How many operand bytes, or second-level opcode bytes, follow the byte `op` (R140: the length is a function of
the first byte alone). -/
def operandBytes (op : Byte) : Nat :=
  match fieldX op, fieldZ op, fieldY op with
  | 0, .v0, .v0 => 0
  | 0, .v0, .v1 => 2
  | 0, .v0, _ => 1
  | 0, .v1, .v0 => 2
  | 0, .v1, .v2 => 2
  | 0, .v1, .v4 => 2
  | 0, .v1, .v6 => 2
  | 0, .v6, _ => 1
  | 0, _, _ => 0
  | 1, _, _ => 0
  | 2, _, _ => 0
  | _, .v0, .v4 => 1
  | _, .v0, .v5 => 1
  | _, .v0, .v6 => 1
  | _, .v0, .v7 => 1
  | _, .v2, .v0 => 2
  | _, .v2, .v1 => 2
  | _, .v2, .v2 => 2
  | _, .v2, .v3 => 2
  | _, .v2, .v5 => 2
  | _, .v2, .v7 => 2
  | _, .v3, .v0 => 2
  | _, .v3, .v1 => 1
  | _, .v4, .v0 => 2
  | _, .v4, .v1 => 2
  | _, .v4, .v2 => 2
  | _, .v4, .v3 => 2
  | _, .v5, .v1 => 2
  | _, .v6, _ => 1
  | _, _, _ => 0

/-- Why a list of bytes does not begin with an instruction. Every byte value begins one (R150 covers each of the
256 values, R153: there are no illegal encodings), so the only ground is that bytes are missing. -/
inductive DecodeError where
  /-- There is no byte at all. -/
  | noOpcode
  /-- The first byte asks for an operand or second-level byte that is not there. -/
  | missingOperand
  deriving DecidableEq, Repr

/-- The instruction a list of bytes begins with, and the bytes after it (R147). -/
def decode : List Byte → Except DecodeError (Instr × List Byte)
  | [] => .error .noOpcode
  | op :: rest =>
    match operandBytes op, rest with
    | 0, rest => .ok (decodeOp op 0x00#8 0x00#8, rest)
    | 1, b1 :: rest => .ok (decodeOp op b1 0x00#8, rest)
    | 2, b1 :: b2 :: rest => .ok (decodeOp op b1 b2, rest)
    | _, _ => .error .missingOperand

/-! ### The encoder -/

/-- The bytes of an instruction at ascending addresses, by spec/opcode_table.json; a 16-bit immediate has its low
byte first (R146). -/
def encode : Instr → List Byte
  | .nop => [0x00#8]
  | .ld_bc_nn nn => [0x01#8, loByte nn, hiByte nn]
  | .ld_mBc_a => [0x02#8]
  | .inc_bc => [0x03#8]
  | .inc_b => [0x04#8]
  | .dec_b => [0x05#8]
  | .ld_b_n n => [0x06#8, n]
  | .rlca => [0x07#8]
  | .ld_mNn_sp nn => [0x08#8, loByte nn, hiByte nn]
  | .add_hl_bc => [0x09#8]
  | .ld_a_mBc => [0x0A#8]
  | .dec_bc => [0x0B#8]
  | .inc_c => [0x0C#8]
  | .dec_c => [0x0D#8]
  | .ld_c_n n => [0x0E#8, n]
  | .rrca => [0x0F#8]
  | .stop n => [0x10#8, n]
  | .ld_de_nn nn => [0x11#8, loByte nn, hiByte nn]
  | .ld_mDe_a => [0x12#8]
  | .inc_de => [0x13#8]
  | .inc_d => [0x14#8]
  | .dec_d => [0x15#8]
  | .ld_d_n n => [0x16#8, n]
  | .rla => [0x17#8]
  | .jr_e e => [0x18#8, e]
  | .add_hl_de => [0x19#8]
  | .ld_a_mDe => [0x1A#8]
  | .dec_de => [0x1B#8]
  | .inc_e => [0x1C#8]
  | .dec_e => [0x1D#8]
  | .ld_e_n n => [0x1E#8, n]
  | .rra => [0x1F#8]
  | .jr_nz_e e => [0x20#8, e]
  | .ld_hl_nn nn => [0x21#8, loByte nn, hiByte nn]
  | .ld_mHli_a => [0x22#8]
  | .inc_hl => [0x23#8]
  | .inc_h => [0x24#8]
  | .dec_h => [0x25#8]
  | .ld_h_n n => [0x26#8, n]
  | .daa => [0x27#8]
  | .jr_z_e e => [0x28#8, e]
  | .add_hl_hl => [0x29#8]
  | .ld_a_mHli => [0x2A#8]
  | .dec_hl => [0x2B#8]
  | .inc_l => [0x2C#8]
  | .dec_l => [0x2D#8]
  | .ld_l_n n => [0x2E#8, n]
  | .cpl => [0x2F#8]
  | .jr_nc_e e => [0x30#8, e]
  | .ld_sp_nn nn => [0x31#8, loByte nn, hiByte nn]
  | .ld_mHld_a => [0x32#8]
  | .inc_sp => [0x33#8]
  | .inc_mHl => [0x34#8]
  | .dec_mHl => [0x35#8]
  | .ld_mHl_n n => [0x36#8, n]
  | .scf => [0x37#8]
  | .jr_c_e e => [0x38#8, e]
  | .add_hl_sp => [0x39#8]
  | .ld_a_mHld => [0x3A#8]
  | .dec_sp => [0x3B#8]
  | .inc_a => [0x3C#8]
  | .dec_a => [0x3D#8]
  | .ld_a_n n => [0x3E#8, n]
  | .ccf => [0x3F#8]
  | .ld_b_b => [0x40#8]
  | .ld_b_c => [0x41#8]
  | .ld_b_d => [0x42#8]
  | .ld_b_e => [0x43#8]
  | .ld_b_h => [0x44#8]
  | .ld_b_l => [0x45#8]
  | .ld_b_mHl => [0x46#8]
  | .ld_b_a => [0x47#8]
  | .ld_c_b => [0x48#8]
  | .ld_c_c => [0x49#8]
  | .ld_c_d => [0x4A#8]
  | .ld_c_e => [0x4B#8]
  | .ld_c_h => [0x4C#8]
  | .ld_c_l => [0x4D#8]
  | .ld_c_mHl => [0x4E#8]
  | .ld_c_a => [0x4F#8]
  | .ld_d_b => [0x50#8]
  | .ld_d_c => [0x51#8]
  | .ld_d_d => [0x52#8]
  | .ld_d_e => [0x53#8]
  | .ld_d_h => [0x54#8]
  | .ld_d_l => [0x55#8]
  | .ld_d_mHl => [0x56#8]
  | .ld_d_a => [0x57#8]
  | .ld_e_b => [0x58#8]
  | .ld_e_c => [0x59#8]
  | .ld_e_d => [0x5A#8]
  | .ld_e_e => [0x5B#8]
  | .ld_e_h => [0x5C#8]
  | .ld_e_l => [0x5D#8]
  | .ld_e_mHl => [0x5E#8]
  | .ld_e_a => [0x5F#8]
  | .ld_h_b => [0x60#8]
  | .ld_h_c => [0x61#8]
  | .ld_h_d => [0x62#8]
  | .ld_h_e => [0x63#8]
  | .ld_h_h => [0x64#8]
  | .ld_h_l => [0x65#8]
  | .ld_h_mHl => [0x66#8]
  | .ld_h_a => [0x67#8]
  | .ld_l_b => [0x68#8]
  | .ld_l_c => [0x69#8]
  | .ld_l_d => [0x6A#8]
  | .ld_l_e => [0x6B#8]
  | .ld_l_h => [0x6C#8]
  | .ld_l_l => [0x6D#8]
  | .ld_l_mHl => [0x6E#8]
  | .ld_l_a => [0x6F#8]
  | .ld_mHl_b => [0x70#8]
  | .ld_mHl_c => [0x71#8]
  | .ld_mHl_d => [0x72#8]
  | .ld_mHl_e => [0x73#8]
  | .ld_mHl_h => [0x74#8]
  | .ld_mHl_l => [0x75#8]
  | .halt => [0x76#8]
  | .ld_mHl_a => [0x77#8]
  | .ld_a_b => [0x78#8]
  | .ld_a_c => [0x79#8]
  | .ld_a_d => [0x7A#8]
  | .ld_a_e => [0x7B#8]
  | .ld_a_h => [0x7C#8]
  | .ld_a_l => [0x7D#8]
  | .ld_a_mHl => [0x7E#8]
  | .ld_a_a => [0x7F#8]
  | .add_a_b => [0x80#8]
  | .add_a_c => [0x81#8]
  | .add_a_d => [0x82#8]
  | .add_a_e => [0x83#8]
  | .add_a_h => [0x84#8]
  | .add_a_l => [0x85#8]
  | .add_a_mHl => [0x86#8]
  | .add_a_a => [0x87#8]
  | .adc_a_b => [0x88#8]
  | .adc_a_c => [0x89#8]
  | .adc_a_d => [0x8A#8]
  | .adc_a_e => [0x8B#8]
  | .adc_a_h => [0x8C#8]
  | .adc_a_l => [0x8D#8]
  | .adc_a_mHl => [0x8E#8]
  | .adc_a_a => [0x8F#8]
  | .sub_b => [0x90#8]
  | .sub_c => [0x91#8]
  | .sub_d => [0x92#8]
  | .sub_e => [0x93#8]
  | .sub_h => [0x94#8]
  | .sub_l => [0x95#8]
  | .sub_mHl => [0x96#8]
  | .sub_a => [0x97#8]
  | .sbc_a_b => [0x98#8]
  | .sbc_a_c => [0x99#8]
  | .sbc_a_d => [0x9A#8]
  | .sbc_a_e => [0x9B#8]
  | .sbc_a_h => [0x9C#8]
  | .sbc_a_l => [0x9D#8]
  | .sbc_a_mHl => [0x9E#8]
  | .sbc_a_a => [0x9F#8]
  | .and_b => [0xA0#8]
  | .and_c => [0xA1#8]
  | .and_d => [0xA2#8]
  | .and_e => [0xA3#8]
  | .and_h => [0xA4#8]
  | .and_l => [0xA5#8]
  | .and_mHl => [0xA6#8]
  | .and_a => [0xA7#8]
  | .xor_b => [0xA8#8]
  | .xor_c => [0xA9#8]
  | .xor_d => [0xAA#8]
  | .xor_e => [0xAB#8]
  | .xor_h => [0xAC#8]
  | .xor_l => [0xAD#8]
  | .xor_mHl => [0xAE#8]
  | .xor_a => [0xAF#8]
  | .or_b => [0xB0#8]
  | .or_c => [0xB1#8]
  | .or_d => [0xB2#8]
  | .or_e => [0xB3#8]
  | .or_h => [0xB4#8]
  | .or_l => [0xB5#8]
  | .or_mHl => [0xB6#8]
  | .or_a => [0xB7#8]
  | .cp_b => [0xB8#8]
  | .cp_c => [0xB9#8]
  | .cp_d => [0xBA#8]
  | .cp_e => [0xBB#8]
  | .cp_h => [0xBC#8]
  | .cp_l => [0xBD#8]
  | .cp_mHl => [0xBE#8]
  | .cp_a => [0xBF#8]
  | .ret_nz => [0xC0#8]
  | .pop_bc => [0xC1#8]
  | .jp_nz_nn nn => [0xC2#8, loByte nn, hiByte nn]
  | .jp_nn nn => [0xC3#8, loByte nn, hiByte nn]
  | .call_nz_nn nn => [0xC4#8, loByte nn, hiByte nn]
  | .push_bc => [0xC5#8]
  | .add_a_n n => [0xC6#8, n]
  | .rst_00 => [0xC7#8]
  | .ret_z => [0xC8#8]
  | .ret => [0xC9#8]
  | .jp_z_nn nn => [0xCA#8, loByte nn, hiByte nn]
  | .call_z_nn nn => [0xCC#8, loByte nn, hiByte nn]
  | .call_nn nn => [0xCD#8, loByte nn, hiByte nn]
  | .adc_a_n n => [0xCE#8, n]
  | .rst_08 => [0xCF#8]
  | .ret_nc => [0xD0#8]
  | .pop_de => [0xD1#8]
  | .jp_nc_nn nn => [0xD2#8, loByte nn, hiByte nn]
  | .unassigned_d3 => [0xD3#8]
  | .call_nc_nn nn => [0xD4#8, loByte nn, hiByte nn]
  | .push_de => [0xD5#8]
  | .sub_n n => [0xD6#8, n]
  | .rst_10 => [0xD7#8]
  | .ret_c => [0xD8#8]
  | .reti => [0xD9#8]
  | .jp_c_nn nn => [0xDA#8, loByte nn, hiByte nn]
  | .unassigned_db => [0xDB#8]
  | .call_c_nn nn => [0xDC#8, loByte nn, hiByte nn]
  | .unassigned_dd => [0xDD#8]
  | .sbc_a_n n => [0xDE#8, n]
  | .rst_18 => [0xDF#8]
  | .ldh_mN_a n => [0xE0#8, n]
  | .pop_hl => [0xE1#8]
  | .ldh_mC_a => [0xE2#8]
  | .unassigned_e3 => [0xE3#8]
  | .unassigned_e4 => [0xE4#8]
  | .push_hl => [0xE5#8]
  | .and_n n => [0xE6#8, n]
  | .rst_20 => [0xE7#8]
  | .add_sp_e e => [0xE8#8, e]
  | .jp_hl => [0xE9#8]
  | .ld_mNn_a nn => [0xEA#8, loByte nn, hiByte nn]
  | .unassigned_eb => [0xEB#8]
  | .unassigned_ec => [0xEC#8]
  | .unassigned_ed => [0xED#8]
  | .xor_n n => [0xEE#8, n]
  | .rst_28 => [0xEF#8]
  | .ldh_a_mN n => [0xF0#8, n]
  | .pop_af => [0xF1#8]
  | .ldh_a_mC => [0xF2#8]
  | .di => [0xF3#8]
  | .unassigned_f4 => [0xF4#8]
  | .push_af => [0xF5#8]
  | .or_n n => [0xF6#8, n]
  | .rst_30 => [0xF7#8]
  | .ld_hl_spE e => [0xF8#8, e]
  | .ld_sp_hl => [0xF9#8]
  | .ld_a_mNn nn => [0xFA#8, loByte nn, hiByte nn]
  | .ei => [0xFB#8]
  | .unassigned_fc => [0xFC#8]
  | .unassigned_fd => [0xFD#8]
  | .cp_n n => [0xFE#8, n]
  | .rst_38 => [0xFF#8]
  | .rlc_b => [0xCB#8, 0x00#8]
  | .rlc_c => [0xCB#8, 0x01#8]
  | .rlc_d => [0xCB#8, 0x02#8]
  | .rlc_e => [0xCB#8, 0x03#8]
  | .rlc_h => [0xCB#8, 0x04#8]
  | .rlc_l => [0xCB#8, 0x05#8]
  | .rlc_mHl => [0xCB#8, 0x06#8]
  | .rlc_a => [0xCB#8, 0x07#8]
  | .rrc_b => [0xCB#8, 0x08#8]
  | .rrc_c => [0xCB#8, 0x09#8]
  | .rrc_d => [0xCB#8, 0x0A#8]
  | .rrc_e => [0xCB#8, 0x0B#8]
  | .rrc_h => [0xCB#8, 0x0C#8]
  | .rrc_l => [0xCB#8, 0x0D#8]
  | .rrc_mHl => [0xCB#8, 0x0E#8]
  | .rrc_a => [0xCB#8, 0x0F#8]
  | .rl_b => [0xCB#8, 0x10#8]
  | .rl_c => [0xCB#8, 0x11#8]
  | .rl_d => [0xCB#8, 0x12#8]
  | .rl_e => [0xCB#8, 0x13#8]
  | .rl_h => [0xCB#8, 0x14#8]
  | .rl_l => [0xCB#8, 0x15#8]
  | .rl_mHl => [0xCB#8, 0x16#8]
  | .rl_a => [0xCB#8, 0x17#8]
  | .rr_b => [0xCB#8, 0x18#8]
  | .rr_c => [0xCB#8, 0x19#8]
  | .rr_d => [0xCB#8, 0x1A#8]
  | .rr_e => [0xCB#8, 0x1B#8]
  | .rr_h => [0xCB#8, 0x1C#8]
  | .rr_l => [0xCB#8, 0x1D#8]
  | .rr_mHl => [0xCB#8, 0x1E#8]
  | .rr_a => [0xCB#8, 0x1F#8]
  | .sla_b => [0xCB#8, 0x20#8]
  | .sla_c => [0xCB#8, 0x21#8]
  | .sla_d => [0xCB#8, 0x22#8]
  | .sla_e => [0xCB#8, 0x23#8]
  | .sla_h => [0xCB#8, 0x24#8]
  | .sla_l => [0xCB#8, 0x25#8]
  | .sla_mHl => [0xCB#8, 0x26#8]
  | .sla_a => [0xCB#8, 0x27#8]
  | .sra_b => [0xCB#8, 0x28#8]
  | .sra_c => [0xCB#8, 0x29#8]
  | .sra_d => [0xCB#8, 0x2A#8]
  | .sra_e => [0xCB#8, 0x2B#8]
  | .sra_h => [0xCB#8, 0x2C#8]
  | .sra_l => [0xCB#8, 0x2D#8]
  | .sra_mHl => [0xCB#8, 0x2E#8]
  | .sra_a => [0xCB#8, 0x2F#8]
  | .swap_b => [0xCB#8, 0x30#8]
  | .swap_c => [0xCB#8, 0x31#8]
  | .swap_d => [0xCB#8, 0x32#8]
  | .swap_e => [0xCB#8, 0x33#8]
  | .swap_h => [0xCB#8, 0x34#8]
  | .swap_l => [0xCB#8, 0x35#8]
  | .swap_mHl => [0xCB#8, 0x36#8]
  | .swap_a => [0xCB#8, 0x37#8]
  | .srl_b => [0xCB#8, 0x38#8]
  | .srl_c => [0xCB#8, 0x39#8]
  | .srl_d => [0xCB#8, 0x3A#8]
  | .srl_e => [0xCB#8, 0x3B#8]
  | .srl_h => [0xCB#8, 0x3C#8]
  | .srl_l => [0xCB#8, 0x3D#8]
  | .srl_mHl => [0xCB#8, 0x3E#8]
  | .srl_a => [0xCB#8, 0x3F#8]
  | .bit_0_b => [0xCB#8, 0x40#8]
  | .bit_0_c => [0xCB#8, 0x41#8]
  | .bit_0_d => [0xCB#8, 0x42#8]
  | .bit_0_e => [0xCB#8, 0x43#8]
  | .bit_0_h => [0xCB#8, 0x44#8]
  | .bit_0_l => [0xCB#8, 0x45#8]
  | .bit_0_mHl => [0xCB#8, 0x46#8]
  | .bit_0_a => [0xCB#8, 0x47#8]
  | .bit_1_b => [0xCB#8, 0x48#8]
  | .bit_1_c => [0xCB#8, 0x49#8]
  | .bit_1_d => [0xCB#8, 0x4A#8]
  | .bit_1_e => [0xCB#8, 0x4B#8]
  | .bit_1_h => [0xCB#8, 0x4C#8]
  | .bit_1_l => [0xCB#8, 0x4D#8]
  | .bit_1_mHl => [0xCB#8, 0x4E#8]
  | .bit_1_a => [0xCB#8, 0x4F#8]
  | .bit_2_b => [0xCB#8, 0x50#8]
  | .bit_2_c => [0xCB#8, 0x51#8]
  | .bit_2_d => [0xCB#8, 0x52#8]
  | .bit_2_e => [0xCB#8, 0x53#8]
  | .bit_2_h => [0xCB#8, 0x54#8]
  | .bit_2_l => [0xCB#8, 0x55#8]
  | .bit_2_mHl => [0xCB#8, 0x56#8]
  | .bit_2_a => [0xCB#8, 0x57#8]
  | .bit_3_b => [0xCB#8, 0x58#8]
  | .bit_3_c => [0xCB#8, 0x59#8]
  | .bit_3_d => [0xCB#8, 0x5A#8]
  | .bit_3_e => [0xCB#8, 0x5B#8]
  | .bit_3_h => [0xCB#8, 0x5C#8]
  | .bit_3_l => [0xCB#8, 0x5D#8]
  | .bit_3_mHl => [0xCB#8, 0x5E#8]
  | .bit_3_a => [0xCB#8, 0x5F#8]
  | .bit_4_b => [0xCB#8, 0x60#8]
  | .bit_4_c => [0xCB#8, 0x61#8]
  | .bit_4_d => [0xCB#8, 0x62#8]
  | .bit_4_e => [0xCB#8, 0x63#8]
  | .bit_4_h => [0xCB#8, 0x64#8]
  | .bit_4_l => [0xCB#8, 0x65#8]
  | .bit_4_mHl => [0xCB#8, 0x66#8]
  | .bit_4_a => [0xCB#8, 0x67#8]
  | .bit_5_b => [0xCB#8, 0x68#8]
  | .bit_5_c => [0xCB#8, 0x69#8]
  | .bit_5_d => [0xCB#8, 0x6A#8]
  | .bit_5_e => [0xCB#8, 0x6B#8]
  | .bit_5_h => [0xCB#8, 0x6C#8]
  | .bit_5_l => [0xCB#8, 0x6D#8]
  | .bit_5_mHl => [0xCB#8, 0x6E#8]
  | .bit_5_a => [0xCB#8, 0x6F#8]
  | .bit_6_b => [0xCB#8, 0x70#8]
  | .bit_6_c => [0xCB#8, 0x71#8]
  | .bit_6_d => [0xCB#8, 0x72#8]
  | .bit_6_e => [0xCB#8, 0x73#8]
  | .bit_6_h => [0xCB#8, 0x74#8]
  | .bit_6_l => [0xCB#8, 0x75#8]
  | .bit_6_mHl => [0xCB#8, 0x76#8]
  | .bit_6_a => [0xCB#8, 0x77#8]
  | .bit_7_b => [0xCB#8, 0x78#8]
  | .bit_7_c => [0xCB#8, 0x79#8]
  | .bit_7_d => [0xCB#8, 0x7A#8]
  | .bit_7_e => [0xCB#8, 0x7B#8]
  | .bit_7_h => [0xCB#8, 0x7C#8]
  | .bit_7_l => [0xCB#8, 0x7D#8]
  | .bit_7_mHl => [0xCB#8, 0x7E#8]
  | .bit_7_a => [0xCB#8, 0x7F#8]
  | .res_0_b => [0xCB#8, 0x80#8]
  | .res_0_c => [0xCB#8, 0x81#8]
  | .res_0_d => [0xCB#8, 0x82#8]
  | .res_0_e => [0xCB#8, 0x83#8]
  | .res_0_h => [0xCB#8, 0x84#8]
  | .res_0_l => [0xCB#8, 0x85#8]
  | .res_0_mHl => [0xCB#8, 0x86#8]
  | .res_0_a => [0xCB#8, 0x87#8]
  | .res_1_b => [0xCB#8, 0x88#8]
  | .res_1_c => [0xCB#8, 0x89#8]
  | .res_1_d => [0xCB#8, 0x8A#8]
  | .res_1_e => [0xCB#8, 0x8B#8]
  | .res_1_h => [0xCB#8, 0x8C#8]
  | .res_1_l => [0xCB#8, 0x8D#8]
  | .res_1_mHl => [0xCB#8, 0x8E#8]
  | .res_1_a => [0xCB#8, 0x8F#8]
  | .res_2_b => [0xCB#8, 0x90#8]
  | .res_2_c => [0xCB#8, 0x91#8]
  | .res_2_d => [0xCB#8, 0x92#8]
  | .res_2_e => [0xCB#8, 0x93#8]
  | .res_2_h => [0xCB#8, 0x94#8]
  | .res_2_l => [0xCB#8, 0x95#8]
  | .res_2_mHl => [0xCB#8, 0x96#8]
  | .res_2_a => [0xCB#8, 0x97#8]
  | .res_3_b => [0xCB#8, 0x98#8]
  | .res_3_c => [0xCB#8, 0x99#8]
  | .res_3_d => [0xCB#8, 0x9A#8]
  | .res_3_e => [0xCB#8, 0x9B#8]
  | .res_3_h => [0xCB#8, 0x9C#8]
  | .res_3_l => [0xCB#8, 0x9D#8]
  | .res_3_mHl => [0xCB#8, 0x9E#8]
  | .res_3_a => [0xCB#8, 0x9F#8]
  | .res_4_b => [0xCB#8, 0xA0#8]
  | .res_4_c => [0xCB#8, 0xA1#8]
  | .res_4_d => [0xCB#8, 0xA2#8]
  | .res_4_e => [0xCB#8, 0xA3#8]
  | .res_4_h => [0xCB#8, 0xA4#8]
  | .res_4_l => [0xCB#8, 0xA5#8]
  | .res_4_mHl => [0xCB#8, 0xA6#8]
  | .res_4_a => [0xCB#8, 0xA7#8]
  | .res_5_b => [0xCB#8, 0xA8#8]
  | .res_5_c => [0xCB#8, 0xA9#8]
  | .res_5_d => [0xCB#8, 0xAA#8]
  | .res_5_e => [0xCB#8, 0xAB#8]
  | .res_5_h => [0xCB#8, 0xAC#8]
  | .res_5_l => [0xCB#8, 0xAD#8]
  | .res_5_mHl => [0xCB#8, 0xAE#8]
  | .res_5_a => [0xCB#8, 0xAF#8]
  | .res_6_b => [0xCB#8, 0xB0#8]
  | .res_6_c => [0xCB#8, 0xB1#8]
  | .res_6_d => [0xCB#8, 0xB2#8]
  | .res_6_e => [0xCB#8, 0xB3#8]
  | .res_6_h => [0xCB#8, 0xB4#8]
  | .res_6_l => [0xCB#8, 0xB5#8]
  | .res_6_mHl => [0xCB#8, 0xB6#8]
  | .res_6_a => [0xCB#8, 0xB7#8]
  | .res_7_b => [0xCB#8, 0xB8#8]
  | .res_7_c => [0xCB#8, 0xB9#8]
  | .res_7_d => [0xCB#8, 0xBA#8]
  | .res_7_e => [0xCB#8, 0xBB#8]
  | .res_7_h => [0xCB#8, 0xBC#8]
  | .res_7_l => [0xCB#8, 0xBD#8]
  | .res_7_mHl => [0xCB#8, 0xBE#8]
  | .res_7_a => [0xCB#8, 0xBF#8]
  | .set_0_b => [0xCB#8, 0xC0#8]
  | .set_0_c => [0xCB#8, 0xC1#8]
  | .set_0_d => [0xCB#8, 0xC2#8]
  | .set_0_e => [0xCB#8, 0xC3#8]
  | .set_0_h => [0xCB#8, 0xC4#8]
  | .set_0_l => [0xCB#8, 0xC5#8]
  | .set_0_mHl => [0xCB#8, 0xC6#8]
  | .set_0_a => [0xCB#8, 0xC7#8]
  | .set_1_b => [0xCB#8, 0xC8#8]
  | .set_1_c => [0xCB#8, 0xC9#8]
  | .set_1_d => [0xCB#8, 0xCA#8]
  | .set_1_e => [0xCB#8, 0xCB#8]
  | .set_1_h => [0xCB#8, 0xCC#8]
  | .set_1_l => [0xCB#8, 0xCD#8]
  | .set_1_mHl => [0xCB#8, 0xCE#8]
  | .set_1_a => [0xCB#8, 0xCF#8]
  | .set_2_b => [0xCB#8, 0xD0#8]
  | .set_2_c => [0xCB#8, 0xD1#8]
  | .set_2_d => [0xCB#8, 0xD2#8]
  | .set_2_e => [0xCB#8, 0xD3#8]
  | .set_2_h => [0xCB#8, 0xD4#8]
  | .set_2_l => [0xCB#8, 0xD5#8]
  | .set_2_mHl => [0xCB#8, 0xD6#8]
  | .set_2_a => [0xCB#8, 0xD7#8]
  | .set_3_b => [0xCB#8, 0xD8#8]
  | .set_3_c => [0xCB#8, 0xD9#8]
  | .set_3_d => [0xCB#8, 0xDA#8]
  | .set_3_e => [0xCB#8, 0xDB#8]
  | .set_3_h => [0xCB#8, 0xDC#8]
  | .set_3_l => [0xCB#8, 0xDD#8]
  | .set_3_mHl => [0xCB#8, 0xDE#8]
  | .set_3_a => [0xCB#8, 0xDF#8]
  | .set_4_b => [0xCB#8, 0xE0#8]
  | .set_4_c => [0xCB#8, 0xE1#8]
  | .set_4_d => [0xCB#8, 0xE2#8]
  | .set_4_e => [0xCB#8, 0xE3#8]
  | .set_4_h => [0xCB#8, 0xE4#8]
  | .set_4_l => [0xCB#8, 0xE5#8]
  | .set_4_mHl => [0xCB#8, 0xE6#8]
  | .set_4_a => [0xCB#8, 0xE7#8]
  | .set_5_b => [0xCB#8, 0xE8#8]
  | .set_5_c => [0xCB#8, 0xE9#8]
  | .set_5_d => [0xCB#8, 0xEA#8]
  | .set_5_e => [0xCB#8, 0xEB#8]
  | .set_5_h => [0xCB#8, 0xEC#8]
  | .set_5_l => [0xCB#8, 0xED#8]
  | .set_5_mHl => [0xCB#8, 0xEE#8]
  | .set_5_a => [0xCB#8, 0xEF#8]
  | .set_6_b => [0xCB#8, 0xF0#8]
  | .set_6_c => [0xCB#8, 0xF1#8]
  | .set_6_d => [0xCB#8, 0xF2#8]
  | .set_6_e => [0xCB#8, 0xF3#8]
  | .set_6_h => [0xCB#8, 0xF4#8]
  | .set_6_l => [0xCB#8, 0xF5#8]
  | .set_6_mHl => [0xCB#8, 0xF6#8]
  | .set_6_a => [0xCB#8, 0xF7#8]
  | .set_7_b => [0xCB#8, 0xF8#8]
  | .set_7_c => [0xCB#8, 0xF9#8]
  | .set_7_d => [0xCB#8, 0xFA#8]
  | .set_7_e => [0xCB#8, 0xFB#8]
  | .set_7_h => [0xCB#8, 0xFC#8]
  | .set_7_l => [0xCB#8, 0xFD#8]
  | .set_7_mHl => [0xCB#8, 0xFE#8]
  | .set_7_a => [0xCB#8, 0xFF#8]

/-! ### The table's numbering -/

/-- The bytes of an instruction given as one number of `nbits` bits, as spec/opcode_table.json numbers them, and
zeros after them. A row of the second-level map is the 16-bit number `byte0 ++ byte1` (spec/30_encoding.md, the
paragraph on the machine-readable copy: `match = 0xCB37` means byte 0 = 0xCB, byte 1 = 0x37); every other row's
number has byte 0 in its low bits, and later bytes above it. -/
def tableBytes (nbits w : Nat) : List Byte :=
  let v := w % 2 ^ nbits
  let b0 : Byte := BitVec.ofNat 8 v
  let b1 : Byte := BitVec.ofNat 8 (v / 0x100)
  let b2 : Byte := BitVec.ofNat 8 (v / 0x10000)
  if b1 = prefixCb then [b1, b0, b2] else [b0, b1, b2]

/-- The instruction the decoder reads from a word of the opcode table. -/
def decodeTableWord (nbits w : Nat) : Option Instr :=
  match decode (tableBytes nbits w) with
  | .ok (i, _) => some i
  | .error _ => none

end Sys2Proof
end

