-- ==== Sys2Proof/Machine/Flags.lean ====
section
/-! DEFINITION. Every flag computation and every arithmetic, logic, rotate and shift function of the instruction set, on
bytes alone: spec/42_alu8.md R215 to R217 and R244 to R251, spec/43_alu16.md R270 and R273, spec/44_rotate_shift_bit.md
R284 and R301 to R306, spec/45_control.md R310. A function that sets flags answers the whole new F. -/

namespace Sys2Proof.Machine

/-! ### The flag register (R22) -/

/-- Zero flag, `F[7]`. -/
def flagZ (f : Byte) : Bool := bit f 7

/-- Subtract flag, `F[6]`. -/
def flagN (f : Byte) : Bool := bit f 6

/-- Half-carry flag, `F[5]`. -/
def flagH (f : Byte) : Bool := bit f 5

/-- Carry flag, `F[4]`. -/
def flagC (f : Byte) : Bool := bit f 4

/-- F from the four flags (Z, N, Hf, Cf); bits 3:0 are zero (R22). -/
def packFlags (z n h c : Bool) : Byte := BitVec.ofNat 8 (128 * bitNat z + 64 * bitNat n + 32 * bitNat h + 16 * bitNat c)

/-- Condition evaluation `CC` (R310). -/
def condHolds (cc : Cond) (f : Byte) : Bool :=
  match cc with
  | .nz => !flagZ f
  | .z => flagZ f
  | .nc => !flagC f
  | .c => flagC f

/-! ### 8-bit addition, subtraction, logic (R215 to R217): (result, F) -/

/-- `Add8(a, b, c)` (R215). -/
def add8 (a b : Byte) (c : Bool) : Byte × Byte :=
  let s := a.toNat + b.toNat + bitNat c
  let r : Byte := BitVec.ofNat 8 s
  (r, packFlags (decide (r = 0#8)) false (decide (0x0F < a.toNat % 0x10 + b.toNat % 0x10 + bitNat c)) (decide (0xFF < s)))

/-- `Sub8(a, b, c)` (R216). -/
def sub8 (a b : Byte) (c : Bool) : Byte × Byte :=
  let r : Byte := BitVec.ofInt 8 ((a.toNat : Int) - (b.toNat : Int) - (bitNat c : Int))
  (r, packFlags (decide (r = 0#8)) true (decide (a.toNat % 0x10 < b.toNat % 0x10 + bitNat c))
    (decide (a.toNat < b.toNat + bitNat c)))

/-- `And8(a, b)` (R217). -/
def and8 (a b : Byte) : Byte × Byte := (a &&& b, packFlags (decide (a &&& b = 0#8)) false true false)

/-- `Or8(a, b)` (R217). -/
def or8 (a b : Byte) : Byte × Byte := (a ||| b, packFlags (decide (a ||| b = 0#8)) false false false)

/-- `Xor8(a, b)` (R217). -/
def xor8 (a b : Byte) : Byte × Byte := (a ^^^ b, packFlags (decide (a ^^^ b = 0#8)) false false false)

/-- The eight operations of R218 on A, the operand and the old F: (the new A, the new F). CP discards the difference
and keeps A (R241). -/
def aluOp (op : AluOp) (a v f : Byte) : Byte × Byte :=
  match op with
  | .add => add8 a v false
  | .adc => add8 a v (flagC f)
  | .sub => sub8 a v false
  | .sbc => sub8 a v (flagC f)
  | .and => and8 a v
  | .xor => xor8 a v
  | .or => or8 a v
  | .cp => (a, (sub8 a v false).2)

/-! ### INC, DEC, DAA, CPL, SCF, CCF (R244 to R251) -/

/-- INC of a byte, from the old F (R244): Cf is unchanged. -/
def inc8 (v f : Byte) : Byte × Byte :=
  (v + 1#8, packFlags (decide (v + 1#8 = 0#8)) false (decide (v.toNat % 0x10 = 0x0F)) (flagC f))

/-- DEC of a byte, from the old F (R246): Cf is unchanged. -/
def dec8 (v f : Byte) : Byte × Byte :=
  (v - 1#8, packFlags (decide (v - 1#8 = 0#8)) true (decide (v.toNat % 0x10 = 0x00)) (flagC f))

/-- The two corrections of DAA after an addition (R248): (the new A, the new Cf). -/
def daaAdd (a : Byte) (h c : Bool) : Byte × Bool :=
  let high := c || decide (0x99 < a.toNat)
  let low := h || decide (0x09 < a.toNat % 0x10)
  let a := if high then a + 0x60#8 else a
  (if low then a + 0x06#8 else a, high)

/-- The two corrections of DAA after a subtraction (R248): Cf keeps its value. -/
def daaSub (a : Byte) (h c : Bool) : Byte × Bool :=
  let a := if c then a - 0x60#8 else a
  (if h then a - 0x06#8 else a, c)

/-- `DAA` (R248): (the new A, the new F). -/
def daa (a f : Byte) : Byte × Byte :=
  let x := if flagN f then daaSub a (flagH f) (flagC f) else daaAdd a (flagH f) (flagC f)
  (x.1, packFlags (decide (x.1 = 0#8)) (flagN f) false x.2)

/-- F after CPL (R249). -/
def cplFlags (f : Byte) : Byte := packFlags (flagZ f) true true (flagC f)

/-- F after SCF (R250). -/
def scfFlags (f : Byte) : Byte := packFlags (flagZ f) false false true

/-- F after CCF (R251). -/
def ccfFlags (f : Byte) : Byte := packFlags (flagZ f) false false (!flagC f)

/-! ### 16-bit addition (R270, R273) -/

/-- `ADD HL,rr` (R270): (the new HL, the new F); Z is unchanged. -/
def add16 (hl v : Word) (f : Byte) : Word × Byte :=
  (hl + v, packFlags (flagZ f) false (decide (0x0FFF < hl.toNat % 0x1000 + v.toNat % 0x1000))
    (decide (0xFFFF < hl.toNat + v.toNat)))

/-- `SP + e` (R203, R273): (the sum, F); the flags are those of the unsigned addition of the low bytes. -/
def addSp (sp : Word) (e : Byte) : Word × Byte :=
  (sp + sext16 e, packFlags false false (decide (0x0F < sp.toNat % 0x10 + e.toNat % 0x10))
    (decide (0xFF < sp.toNat % 0x100 + e.toNat)))

/-! ### Rotates and shifts (R284): (result, carry-out) -/

/-- `Rlc(v)`. -/
def rlc (v : Byte) : Byte × Bool := ((v <<< 1) ||| (v >>> 7), bit v 7)

/-- `Rrc(v)`. -/
def rrc (v : Byte) : Byte × Bool := ((v >>> 1) ||| (v <<< 7), bit v 0)

/-- `Rl(v, c)`. -/
def rl (v : Byte) (c : Bool) : Byte × Bool := ((v <<< 1) ||| (if c then 0x01#8 else 0#8), bit v 7)

/-- `Rr(v, c)`. -/
def rr (v : Byte) (c : Bool) : Byte × Bool := ((v >>> 1) ||| (if c then 0x80#8 else 0#8), bit v 0)

/-- `Sla(v)`. -/
def sla (v : Byte) : Byte × Bool := (v <<< 1, bit v 7)

/-- `Sra(v)`. -/
def sra (v : Byte) : Byte × Bool := ((v >>> 1) ||| (v &&& 0x80#8), bit v 0)

/-- `Srl(v)`. -/
def srl (v : Byte) : Byte × Bool := (v >>> 1, bit v 0)

/-- `Swap(v)`: exchange the nibbles, no carry. -/
def swap (v : Byte) : Byte × Bool := ((v <<< 4) ||| (v >>> 4), false)

/-- The eight operations `ROT` (R144) with the carry-in. -/
def rotOp (op : RotOp) (v : Byte) (c : Bool) : Byte × Bool :=
  match op with
  | .rlc => rlc v
  | .rrc => rrc v
  | .rl => rl v c
  | .rr => rr v c
  | .sla => sla v
  | .sra => sra v
  | .swap => swap v
  | .srl => srl v

/-- F after a CB-prefixed rotate or shift (spec/44_rotate_shift_bit.md section 3): Z from the result. -/
def rotFlags (x : Byte × Bool) : Byte := packFlags (decide (x.1 = 0#8)) false false x.2

/-- F after a rotate of A (R280 to R283): Z is cleared. -/
def rotAFlags (x : Byte × Bool) : Byte := packFlags false false false x.2

/-- F after BIT (R301, R302): Z is the complement of the tested bit, Cf is unchanged. -/
def bitFlags (b : Nat) (v f : Byte) : Byte := packFlags (!bit v b) false true (flagC f)

/-- `v & ~(1 << b)` (R303). -/
def resBit (b : Nat) (v : Byte) : Byte := v &&& ~~~(bitMask b)

/-- `v | (1 << b)` (R305). -/
def setBit (b : Nat) (v : Byte) : Byte := v ||| bitMask b

end Sys2Proof.Machine
end

