-- ==== Sys2Proof/Machine/Parts.lean ====
section
/-! DEFINITION. The units of the machine as plain data (spec/00_scope.md R1): CPU, interrupt controller, timer, OAM
DMA, pixel pipeline, sound pipeline, cartridge controller, and the port to the host. Every register has one home; the
bus (Sys2Proof/Machine/Ops.lean) routes its address to it. -/

namespace Sys2Proof.Machine

/-- CpuCore (R20 to R27). -/
structure Cpu where
  /-- Accumulator, high half of AF (R20). -/
  a : Byte
  /-- Flags: bit 7 Z, bit 6 N, bit 5 Hf, bit 4 Cf, bits 3:0 zero (R22). -/
  f : Byte
  b : Byte
  c : Byte
  d : Byte
  e : Byte
  h : Byte
  l : Byte
  /-- Stack pointer (R21). -/
  sp : Word
  /-- Program counter, the address of the next byte to fetch (R23). -/
  pc : Word
  /-- Interrupt Master Enable (R24). -/
  ime : Bool
  /-- The CPU idles until an interrupt is pending (R25). -/
  halted : Bool
  /-- The next opcode fetch does not increment PC (R26). -/
  haltBug : Bool
  /-- IME is set after the next instruction; used only when `EI_DELAY = 1` (R27). -/
  eiPending : Bool
  deriving DecidableEq, Repr

/-- InterruptController: the two memory-mapped registers (R35, R36). -/
structure Irq where
  /-- IF, stored bits 4:0 (R35). -/
  request : Byte
  /-- IE, all eight bits stored (R36). -/
  enable : Byte
  deriving DecidableEq, Repr

/-- TimerUnit (R33, R34, R56). -/
structure Timer where
  /-- Cycles modulo 2^16; DIV is its high byte (R33, R56). -/
  divCounter : Word
  /-- Cycles since the last TIMA increment (R56). -/
  timaAcc : Nat
  tima : Byte
  tma : Byte
  tac : Byte
  deriving DecidableEq, Repr

/-- The OAM DMA state machine (R41, R57). -/
structure Dma where
  /-- The DMA register, 0xFF46 (R41). -/
  reg : Byte
  /-- The in-progress flag (R57). -/
  active : Bool
  /-- Cycles accumulated since the trigger (R57). -/
  elapsed : Nat
  deriving DecidableEq, Repr

/-- A pixel of the framebuffer (R58, R413). -/
structure Rgb where
  red : Byte
  green : Byte
  blue : Byte
  deriving DecidableEq, Repr

/-- PixelPipeline: its registers (R37 to R40) and internal state (R58). -/
structure Ppu where
  lcdc : Byte
  stat : Byte
  scy : Byte
  scx : Byte
  ly : Byte
  lyc : Byte
  bgp : Byte
  obp0 : Byte
  obp1 : Byte
  wy : Byte
  wx : Byte
  /-- `ppuBudget`, the scanline cycle counter, counting down from 456 (R58, R402). -/
  budget : Nat
  /-- The previous value of LY = LYC (R58, R404). -/
  prevCoin : Bool
  /-- `FB`: 144 rows of 160 pixels (R58). -/
  fb : List (List Rgb)
  /-- `CODE`: 144 rows of 160 two-bit background colour codes (R58). -/
  code : List (List (BitVec 2))
  /-- The "render required" signal (R58, R402). -/
  frameReady : Bool
  deriving DecidableEq, Repr

/-- A pulse channel (R43, R450): channel 1 is `NR11` to `NR14`, channel 2 `NR21` to `NR24`. -/
structure Pulse where
  /-- NRx1: duty and length field. -/
  nr1 : Byte
  /-- NRx2: initial volume, envelope direction and period. -/
  nr2 : Byte
  /-- NRx3: frequency bits 7:0. -/
  nr3 : Byte
  /-- NRx4: trigger, length enable, frequency bits 10:8. -/
  nr4 : Byte
  /-- `chEnabled`. -/
  on : Bool
  /-- `freqTimer`. -/
  timer : Nat
  /-- `dutyPos`. -/
  duty : Nat
  /-- `lengthCtr`. -/
  length : Nat
  /-- `envTimer`. -/
  env : Nat
  vol : Nat
  deriving DecidableEq, Repr

/-- The sweep unit of channel 1 (R43, R450, R463). -/
structure Sweep where
  nr10 : Byte
  /-- `sweepTimer`. -/
  timer : Nat
  /-- `sweepShadow`. -/
  shadow : Nat
  /-- `sweepEnabled`. -/
  enabled : Bool
  deriving DecidableEq, Repr

/-- The wave channel, channel 3 (R43, R450); its samples are in wave RAM (R45). -/
structure Wave where
  nr30 : Byte
  nr31 : Byte
  nr32 : Byte
  nr33 : Byte
  nr34 : Byte
  /-- `chEnabled[2]`. -/
  on : Bool
  /-- `freqTimer[3]`. -/
  timer : Nat
  /-- `wavePos`. -/
  pos : Nat
  /-- `lengthCtr[3]`. -/
  length : Nat
  deriving DecidableEq, Repr

/-- The noise channel, channel 4 (R43, R450). -/
structure Noise where
  nr41 : Byte
  nr42 : Byte
  nr43 : Byte
  nr44 : Byte
  /-- `chEnabled[3]`. -/
  on : Bool
  /-- `freqTimer[4]`. -/
  timer : Nat
  lfsr : BitVec 15
  /-- `lengthCtr[4]`. -/
  length : Nat
  /-- `envTimer[4]`. -/
  env : Nat
  /-- `vol[4]`. -/
  vol : Nat
  deriving DecidableEq, Repr

/-- The frame sequencer (R450, R460). -/
structure Sequencer where
  /-- `fsCounter`: cycles since the last step. -/
  counter : Nat
  /-- `fsStep`: the step the next event performs. -/
  step : Nat
  deriving DecidableEq, Repr

/-- The output sampler (R61, R450, R470). -/
structure Sampler where
  /-- `sampleAcc`: cycles since the last output sample. -/
  acc : Nat
  /-- `audioBuf`: the buffer being filled, (left, right) pairs, oldest first. -/
  buf : List (Byte × Byte)
  /-- `pcmOut`: the full buffers handed to the sink, oldest first. -/
  out : List (List (Byte × Byte))
  deriving DecidableEq, Repr

/-- SoundPipeline (R43, R44, R450). -/
structure Apu where
  sweep : Sweep
  pulse1 : Pulse
  pulse2 : Pulse
  wave : Wave
  noise : Noise
  /-- NR50: the volumes of the two sides. -/
  nr50 : Byte
  /-- NR51: panning. -/
  nr51 : Byte
  /-- NR52, stored bit 7 only (R44). -/
  nr52 : Byte
  seq : Sequencer
  sampler : Sampler
  deriving DecidableEq, Repr

/-- The controller styles of R30. -/
inductive MbcType where
  | romOnly | mbc1 | mbc2 | mbc35
  deriving DecidableEq, Repr

/-- What the cartridge header fixes at construction (R30, R100). -/
structure Header where
  mbcType : MbcType
  romBanks : Nat
  ramBanks : Nat
  deriving DecidableEq, Repr

/-- `bankMode` of R30: 0 is ROM-banking, 1 RAM-banking mode. -/
inductive BankMode where
  | romBanking | ramBanking
  deriving DecidableEq, Repr

/-- The cartridge controller (R30). -/
structure Mbc where
  header : Header
  romBank : Nat
  ramBank : Nat
  ramEnabled : Bool
  bankMode : BankMode
  deriving DecidableEq, Repr

/-- `runState` (R61, R380). -/
inductive RunState where
  | running | paused | stopRequested
  deriving DecidableEq, Repr

/-- The actions of the host on the core (R380). -/
inductive HostAction where
  | setJoypad (j : Byte)
  | pause
  | resume
  | stop
  | takeFrame
  | takeAudio
  | takeSerial
  | debugPeek (addr : Word)
  deriving DecidableEq, Repr

/-- The port to the host (R60, R61, R380). -/
structure HostPort where
  /-- `JOY`, 0 = pressed (R60). -/
  joy : Byte
  /-- `serialOut`, oldest byte first (R61). -/
  serialOut : List Byte
  runState : RunState
  /-- The host's action sequence still to come (the open parameter of spec/92_eei_decisions.md): one list for each
  pass of the run loop, performed in order before that pass's iteration (R370, R380). Passes beyond the list have no
  action. -/
  script : List (List HostAction)
  deriving DecidableEq, Repr

end Sys2Proof.Machine
end

