-- ==== Sys2Proof/Machine/ResetValues.lean ====
section
/-! DEFINITION. The reset value of every unit, cold and skip-boot: spec/70_reset_and_hazards.md R500, and the
"Reset:" clauses of spec/10_state.md R31 to R45, R56 to R61, R70 to R72 and spec/62_apu.md R450. -/

namespace Sys2Proof.Machine

/-- CPU registers after a cold reset (R71). -/
def Cpu.cold : Cpu where
  a := 0x00#8
  f := 0x00#8
  b := 0x00#8
  c := 0x00#8
  d := 0x00#8
  e := 0x00#8
  h := 0x00#8
  l := 0x00#8
  sp := 0x0000#16
  pc := 0x0000#16
  ime := false
  halted := false
  haltBug := false
  eiPending := false

/-- CPU registers after a skip-boot reset, with `AF = af` (R70). -/
def Cpu.skipBoot (af : Word) : Cpu where
  a := af.extractLsb' 8 8
  f := af.extractLsb' 0 8
  b := 0x00#8
  c := 0x13#8
  d := 0x00#8
  e := 0xD8#8
  h := 0x01#8
  l := 0x4D#8
  sp := 0xFFFE#16
  pc := 0x0100#16
  ime := false
  halted := false
  haltBug := false
  eiPending := false

/-- IF and IE after a cold reset (R35, R36). -/
def Irq.cold : Irq where
  request := 0x00#8
  enable := 0x00#8

/-- IF and IE after a skip-boot reset (R35, R36). -/
def Irq.skipBoot : Irq where
  request := 0x01#8
  enable := 0x00#8

/-- The TimerUnit after a cold reset (R33, R34, R56). -/
def Timer.cold : Timer where
  divCounter := 0x0000#16
  timaAcc := 0
  tima := 0x00#8
  tma := 0x00#8
  tac := 0x00#8

/-- The TimerUnit after a skip-boot reset (R33, R34, R56). -/
def Timer.skipBoot : Timer where
  divCounter := 0xABCC#16
  timaAcc := 0
  tima := 0x00#8
  tma := 0x00#8
  tac := 0xF8#8

/-- The DMA unit after a cold reset (R41, R57). -/
def Dma.cold : Dma where
  reg := 0x00#8
  active := false
  elapsed := 0

/-- The DMA unit after a skip-boot reset (R41, R57). -/
def Dma.skipBoot : Dma where
  reg := 0xFF#8
  active := false
  elapsed := 0

/-- Shade 0 of the grayscale ramp, the reset value of every pixel (R58, R413). -/
def Rgb.shade0 : Rgb where
  red := 245#8
  green := 245#8
  blue := 245#8

/-- `FB` after reset (R58): 144 rows of 160 pixels. -/
def frameBlank : List (List Rgb) := List.replicate 144 (List.replicate 160 Rgb.shade0)

/-- `CODE` after reset (R58). -/
def codeBlank : List (List (BitVec 2)) := List.replicate 144 (List.replicate 160 0#2)

/-- The PPU after a cold reset (R37 to R40, R58). -/
def Ppu.cold : Ppu where
  lcdc := 0x00#8
  stat := 0x00#8
  scy := 0x00#8
  scx := 0x00#8
  ly := 0x00#8
  lyc := 0x00#8
  bgp := 0x00#8
  obp0 := 0x00#8
  obp1 := 0x00#8
  wy := 0x00#8
  wx := 0x00#8
  budget := 456
  prevCoin := false
  fb := frameBlank
  code := codeBlank
  frameReady := false

/-- The PPU after a skip-boot reset (R37 to R40, R58). -/
def Ppu.skipBoot : Ppu where
  lcdc := 0x91#8
  stat := 0x85#8
  scy := 0x00#8
  scx := 0x00#8
  ly := 0x00#8
  lyc := 0x00#8
  bgp := 0xFC#8
  obp0 := 0xFF#8
  obp1 := 0xFF#8
  wy := 0x00#8
  wx := 0x00#8
  budget := 456
  prevCoin := true
  fb := frameBlank
  code := codeBlank
  frameReady := false

/-- A pulse channel after a cold reset (R43, R450). -/
def Pulse.cold : Pulse where
  nr1 := 0x00#8
  nr2 := 0x00#8
  nr3 := 0x00#8
  nr4 := 0x00#8
  on := false
  timer := 0
  duty := 0
  length := 0
  env := 0
  vol := 0

/-- The wave channel after a cold reset (R43, R450). -/
def Wave.cold : Wave where
  nr30 := 0x00#8
  nr31 := 0x00#8
  nr32 := 0x00#8
  nr33 := 0x00#8
  nr34 := 0x00#8
  on := false
  timer := 0
  pos := 0
  length := 0

/-- The noise channel after a cold reset (R43, R450). -/
def Noise.cold : Noise where
  nr41 := 0x00#8
  nr42 := 0x00#8
  nr43 := 0x00#8
  nr44 := 0x00#8
  on := false
  timer := 0
  lfsr := 0x7FFF#15
  length := 0
  env := 0
  vol := 0

/-- The APU after a cold reset (R43, R44, R450). -/
def Apu.cold : Apu where
  sweep := { nr10 := 0x00#8, timer := 0, shadow := 0, enabled := false }
  pulse1 := Pulse.cold
  pulse2 := Pulse.cold
  wave := Wave.cold
  noise := Noise.cold
  nr50 := 0x00#8
  nr51 := 0x00#8
  nr52 := 0x00#8
  seq := { counter := 0, step := 0 }
  sampler := { acc := 0, buf := [], out := [] }

/-- The APU after a skip-boot reset: the register values of R43 and R44, loaded without side effects; the internal
state as after a cold reset (R450). -/
def Apu.skipBoot : Apu where
  sweep := { nr10 := 0x80#8, timer := 0, shadow := 0, enabled := false }
  pulse1 := { Pulse.cold with nr1 := 0xBF#8, nr2 := 0xF3#8, nr3 := 0xFF#8, nr4 := 0xBF#8 }
  pulse2 := { Pulse.cold with nr1 := 0x3F#8, nr2 := 0x00#8, nr3 := 0xFF#8, nr4 := 0xBF#8 }
  wave := { Wave.cold with nr30 := 0x7F#8, nr31 := 0xFF#8, nr32 := 0x9F#8, nr33 := 0xFF#8, nr34 := 0xBF#8 }
  noise := { Noise.cold with nr41 := 0xFF#8, nr42 := 0x00#8, nr43 := 0x00#8, nr44 := 0xBF#8 }
  nr50 := 0x77#8
  nr51 := 0xF3#8
  nr52 := 0x80#8
  seq := { counter := 0, step := 0 }
  sampler := { acc := 0, buf := [], out := [] }

/-- The cartridge controller after either reset (R72, R500 step 2). -/
def Mbc.atReset (hd : Header) : Mbc where
  header := hd
  romBank := 1
  ramBank := 0
  ramEnabled := false
  bankMode := .romBanking

/-- The host port after either reset, with the host's action sequence (R60, R61). -/
def HostPort.atReset (script : List (List HostAction)) : HostPort where
  joy := 0xFF#8
  serialOut := []
  runState := .running
  script := script

end Sys2Proof.Machine
end

