-- ==== Sys2Proof/Machine/State.lean ====
section
/-! DEFINITION. The state of the machine, the reasons a step can stop, and the state after reset
(spec/10_state.md, spec/70_reset_and_hazards.md R500). -/

namespace Sys2Proof.Machine

/-- Everything the spec gives the machine. -/
structure State where
  cpu : Cpu
  irq : Irq
  timer : Timer
  dma : Dma
  ppu : Ppu
  apu : Apu
  mbc : Mbc
  port : HostPort
  /-- P1, stored bits 5:4 only (R31). -/
  p1 : Byte
  /-- SB (R32). -/
  sb : Byte
  /-- SC (R32). -/
  sc : Byte
  /-- True while 0x0000 to 0x00FF read the boot ROM (R29). -/
  bootOverlay : Bool
  /-- `MEM` of R28 less the registers that are fields above, keyed by CPU address: video RAM, work RAM, OAM, wave RAM,
  HRAM and the plain I/O bytes (BOOT at 0xFF50, 0xFF15, 0xFF1F and those of R46). -/
  mem : Memory
  /-- `XRAM`, keyed by offset (R29). -/
  xram : Memory
  /-- `CART`, never written by a step (R29). -/
  cart : Cart
  /-- `BOOT_ROM`, never written by a step (R29). -/
  bootRom : Memory
  /-- The parameters of R7, never written by a step. -/
  par : Params
  /-- The scratch counter `charged` of R371: the model's own field, 0 between steps. While an instruction runs it is
  the number of cycles charged so far; when the instruction is complete it is the instruction's cycle count. -/
  charged : Nat
  deriving DecidableEq, Repr

/-- Why the machine stops with a fault: never. No instruction, access or decode can trap, fault or abort (R350), so
the type has no constructor and nothing raises one. -/
inductive Fault where
  deriving DecidableEq, Repr

/-- Why an instruction is refused. -/
inductive Refusal where
  /-- Raised by `exec` for an instruction that has no meaning yet; safe, since nothing runs on. No arm raises it. -/
  | notModelled (mnemonic : String)
  /-- Raised by the meaning of STOP, to which the spec gives no semantics (R332: `refuse`, "not specified"); safe,
  since nothing runs on. -/
  | stopNotSpecified
  deriving DecidableEq, Repr

/-- The three outcomes of a step or of a meaning on this machine. -/
abbrev Result := Host.Outcome State Fault Refusal

/-- The state after a cold reset (R500, R71) of the machine with these parameters, cartridge image, boot ROM, header
results and host action sequence. -/
def State.coldWith (par : Params) (cart : Cart) (bootRom : Memory) (hd : Header)
    (script : List (List HostAction)) : State where
  cpu := Cpu.cold
  irq := Irq.cold
  timer := Timer.cold
  dma := Dma.cold
  ppu := Ppu.cold
  apu := Apu.cold
  mbc := Mbc.atReset hd
  port := HostPort.atReset script
  p1 := 0x00#8
  sb := 0x00#8
  sc := 0x00#8
  bootOverlay := true
  mem := []
  xram := []
  cart := cart
  bootRom := bootRom
  par := par
  charged := 0

/-- The state after a skip-boot reset (R500, R70) of the machine with these parameters, cartridge image, header results
and host action sequence. -/
def State.skipBootWith (par : Params) (cart : Cart) (bootRom : Memory) (hd : Header)
    (script : List (List HostAction)) : State where
  cpu := Cpu.skipBoot par.afReset
  irq := Irq.skipBoot
  timer := Timer.skipBoot
  dma := Dma.skipBoot
  ppu := Ppu.skipBoot
  apu := Apu.skipBoot
  mbc := Mbc.atReset hd
  port := HostPort.atReset script
  p1 := 0x00#8
  sb := 0x00#8
  sc := 0x7E#8
  bootOverlay := false
  mem := []
  xram := []
  cart := cart
  bootRom := bootRom
  par := par
  charged := 0

/-- The machine right after reset: the skip-boot reset with the default parameters, no boot ROM and the blank ROM_ONLY
cartridge of spec/95_test_vectors.md section 2.0, and no host action to come. Of the parameters that R7 leaves open
(CART, BOOT_ROM, SKIP_BOOT, the host's actions) these are the choice; `construct` (Sys2Proof/Machine/Reset.lean) gives
the reset state for every other choice. DESIGN CHOICE (log entry 1), unsafe. -/
def State.reset : State :=
  State.skipBootWith Params.default Cart.blank []
    { mbcType := .romOnly, romBanks := 2, ramBanks := 0 } []

end Sys2Proof.Machine
end

