-- ==== Sys2Proof/Machine/Apu.lean ====
section
/-! DEFINITION. SoundPipeline (spec/62_apu.md): the four channels, the frame sequencer, the register writes, the mixer
and the sample output. Everything is a function of the sound unit; wave RAM is read from the memory image. -/

namespace Sys2Proof.Machine

/-! ### Frequencies and periods (R43, R452 to R454) -/

/-- An 11-bit frequency value, `NRx4[2:0] ++ NRx3`. -/
def frequency (nr4 nr3 : Byte) : Nat := field nr4 0 3 * 0x100 + nr3.toNat

/-- `f1` or `f2`. -/
def Pulse.freq (c : Pulse) : Nat := frequency c.nr4 c.nr3

/-- `f3`. -/
def Wave.freq (c : Wave) : Nat := frequency c.nr34 c.nr33

/-- The reload value of a pulse channel's timer, `(2048 - f) * 4` (R452). -/
def Pulse.period (c : Pulse) : Nat := (2048 - c.freq) * 4

/-- The reload value of the wave channel's timer, `(2048 - f) * 2` (R453). -/
def Wave.period (c : Wave) : Nat := (2048 - c.freq) * 2

/-- `DIVISOR` (R454). -/
def noiseDivisor (code : Nat) : Nat := [8, 16, 32, 48, 64, 80, 96, 112].getD code 8

/-- `NoisePeriod = DIVISOR[NR43[2:0]] << NR43[7:4]` (R454). -/
def Noise.period (c : Noise) : Nat := noiseDivisor (field c.nr43 0 3) <<< field c.nr43 4 4

/-! ### The frequency timers (R452 to R454), one tick each -/

/-- Pulse timer (R452). -/
def Pulse.tick (c : Pulse) : Pulse :=
  if 1 < c.timer then { c with timer := c.timer - 1 }
  else { c with timer := c.period, duty := (c.duty + 1) % 8 }

/-- Wave timer (R453). -/
def Wave.tick (c : Wave) : Wave :=
  if 1 < c.timer then { c with timer := c.timer - 1 }
  else { c with timer := c.period, pos := (c.pos + 1) % 32 }

/-- `LfsrStep()` (R454): feedback of bits 0 and 1 into bit 14, and into bit 6 in the 7-bit mode. -/
def lfsrStep (narrow : Bool) (x : BitVec 15) : BitVec 15 :=
  let fb := x.getLsbD 0 ^^ x.getLsbD 1
  let y := (x >>> 1) ||| (if fb then 0x4000#15 else 0#15)
  if narrow then (y &&& ~~~0x0040#15) ||| (if fb then 0x0040#15 else 0#15) else y

/-- Noise timer (R454). -/
def Noise.tick (c : Noise) : Noise :=
  if 1 < c.timer then { c with timer := c.timer - 1 }
  else { c with timer := c.period, lfsr := lfsrStep (bit c.nr43 3) c.lfsr }

/-! ### Length, envelope, sweep (R461 to R463) -/

/-- One channel of `LengthTick()` (R461): from NRx4, the counter and the channel enable to the new counter and the new
channel enable. -/
def lengthTick (nr4 : Byte) (n : Nat) (on : Bool) : Nat × Bool :=
  if bit nr4 6 && decide (0 < n) then (n - 1, if n - 1 = 0 then false else on) else (n, on)

/-- `LengthTick()` of a pulse channel (R461). -/
def Pulse.lengthTick (c : Pulse) : Pulse :=
  let x := Machine.lengthTick c.nr4 c.length c.on
  { c with length := x.1, on := x.2 }

/-- `LengthTick()` of the wave channel (R461). -/
def Wave.lengthTick (c : Wave) : Wave :=
  let x := Machine.lengthTick c.nr34 c.length c.on
  { c with length := x.1, on := x.2 }

/-- `LengthTick()` of the noise channel (R461). -/
def Noise.lengthTick (c : Noise) : Noise :=
  let x := Machine.lengthTick c.nr44 c.length c.on
  { c with length := x.1, on := x.2 }

/-- `LengthTick()` (R461). -/
def Apu.lengthTick (a : Apu) : Apu :=
  { a with
    pulse1 := a.pulse1.lengthTick
    pulse2 := a.pulse2.lengthTick
    wave := a.wave.lengthTick
    noise := a.noise.lengthTick }

/-- One channel of `EnvelopeTick()` (R462): from NRx2, the timer and the volume to the new timer and the new volume. -/
def envelopeTick (nr2 : Byte) (timer vol : Nat) : Nat × Nat :=
  let period := field nr2 0 3
  if period = 0 then (timer, vol)
  else if 1 < timer then (timer - 1, vol)
  else if bit nr2 3 then (period, if vol < 15 then vol + 1 else vol)
  else (period, vol - 1)

/-- `EnvelopeTick()` of a pulse channel (R462). -/
def Pulse.envelopeTick (c : Pulse) : Pulse :=
  let x := Machine.envelopeTick c.nr2 c.env c.vol
  { c with env := x.1, vol := x.2 }

/-- `EnvelopeTick()` of the noise channel (R462). -/
def Noise.envelopeTick (c : Noise) : Noise :=
  let x := Machine.envelopeTick c.nr42 c.env c.vol
  { c with env := x.1, vol := x.2 }

/-- `EnvelopeTick()` (R462). -/
def Apu.envelopeTick (a : Apu) : Apu :=
  { a with pulse1 := a.pulse1.envelopeTick, pulse2 := a.pulse2.envelopeTick, noise := a.noise.envelopeTick }

/-- `SweepCalc()` (R463). -/
def Sweep.calc (w : Sweep) : Nat :=
  let delta := w.shadow >>> field w.nr10 0 3
  if bit w.nr10 3 then w.shadow - delta else w.shadow + delta

/-- What `sweepTimer` is reloaded with (R458, R463). -/
def Sweep.reload (w : Sweep) : Nat := if field w.nr10 4 3 ≠ 0 then field w.nr10 4 3 else 8

/-- The bypass write-back of a new sweep frequency into NR13 and NR14 bits 2:0 (R463). -/
def Pulse.writeBack (nf : Nat) (c : Pulse) : Pulse :=
  { c with nr3 := BitVec.ofNat 8 nf, nr4 := (c.nr4 &&& 0xF8#8) ||| BitVec.ofNat 8 (nf / 0x100 % 8) }

/-- Channel 1 is turned off when the frequency the sweep unit computes now exceeds 2047 (R458, R463). -/
def Apu.sweepCheck (a : Apu) : Apu :=
  if 2047 < a.sweep.calc then { a with pulse1 := { a.pulse1 with on := false } } else a

/-- A new sweep frequency is committed: the shadow and the write-back (R463). -/
def Apu.sweepCommit (nf : Nat) (a : Apu) : Apu :=
  { a with sweep := { a.sweep with shadow := nf }, pulse1 := a.pulse1.writeBack nf }

/-- `SweepTick()` (R463). -/
def Apu.sweepTick (a : Apu) : Apu :=
  if 1 < a.sweep.timer then { a with sweep := { a.sweep with timer := a.sweep.timer - 1 } }
  else
    let b := { a with sweep := { a.sweep with timer := a.sweep.reload } }
    if b.sweep.enabled && decide (field b.sweep.nr10 4 3 ≠ 0) then
      if 2047 < b.sweep.calc then { b with pulse1 := { b.pulse1 with on := false } }
      else if field b.sweep.nr10 0 3 ≠ 0 then (b.sweepCommit b.sweep.calc).sweepCheck
      else b
    else b

/-- `FsEvent(s)` (R460). -/
def Apu.fsEvent (step : Nat) (a : Apu) : Apu :=
  match step with
  | 0 => a.lengthTick
  | 2 => a.lengthTick.sweepTick
  | 4 => a.lengthTick
  | 6 => a.lengthTick.sweepTick
  | 7 => a.envelopeTick
  | _ => a

/-- The frame sequencer, first part of a tick (R460). -/
def Apu.tickSequencer (a : Apu) : Apu :=
  if a.seq.counter + 1 = 8192 then
    { Apu.fsEvent a.seq.step a with seq := { counter := 0, step := (a.seq.step + 1) % 8 } }
  else { a with seq := { a.seq with counter := a.seq.counter + 1 } }

/-- The four frequency timers, second part of a tick (R452 to R454). -/
def Apu.tickTimers (a : Apu) : Apu :=
  { a with pulse1 := a.pulse1.tick, pulse2 := a.pulse2.tick, wave := a.wave.tick, noise := a.noise.tick }

/-! ### Amplitudes, mixer, sampler (R455, R470 to R472) -/

/-- `DUTY[d][pos]` (R455). -/
def dutyStep (d pos : Nat) : Nat :=
  match d with
  | 0 => [0, 0, 0, 0, 0, 0, 0, 1].getD pos 0
  | 1 => [1, 0, 0, 0, 0, 0, 0, 1].getD pos 0
  | 2 => [1, 0, 0, 0, 0, 1, 1, 1].getD pos 0
  | _ => [0, 1, 1, 1, 1, 1, 1, 0].getD pos 0

/-- `amp1` or `amp2` (R455). -/
def Pulse.amp (c : Pulse) : Nat := if c.on then dutyStep (field c.nr1 6 2) c.duty * c.vol else 0

/-- `WaveSample(k)` (R453): the high nibble of `IO[0xFF30 + k/2]` for even k, the low nibble for odd k. -/
def waveSample (mem : Memory) (k : Nat) : Nat :=
  let b := Memory.read mem (0xFF30 + k / 2)
  if k % 2 = 0 then field b 4 4 else field b 0 4

/-- `WSHIFT` (R455). -/
def waveShift (code : Nat) : Nat := [4, 0, 1, 2].getD code 4

/-- `amp3` (R455). -/
def Wave.amp (mem : Memory) (c : Wave) : Nat :=
  if c.on && bit c.nr30 7 then waveSample mem c.pos >>> waveShift (field c.nr32 5 2) else 0

/-- `amp4` (R455): the complement of LFSR bit 0. -/
def Noise.amp (c : Noise) : Nat := if c.on then (1 - bitNat (c.lfsr.getLsbD 0)) * c.vol else 0

/-- An amplitude where its panning bit is set, else 0 (R471). -/
def gated (on : Bool) (amp : Nat) : Nat := if on then amp else 0

/-- The sum of the amplitudes that NR51 routes to one side: bits `first` to `first + 3` (R471). -/
def Apu.sideSum (mem : Memory) (first : Nat) (a : Apu) : Nat :=
  gated (bit a.nr51 first) a.pulse1.amp + gated (bit a.nr51 (first + 1)) a.pulse2.amp
    + gated (bit a.nr51 (first + 2)) (a.wave.amp mem) + gated (bit a.nr51 (first + 3)) a.noise.amp

/-- `Mix()` (R471, R472): the pair (left, right). -/
def Apu.mix (mem : Memory) (a : Apu) : Byte × Byte :=
  if bit a.nr52 7 then
    (BitVec.ofNat 8 (a.sideSum mem 4 * (field a.nr50 4 3 + 1) / 8),
     BitVec.ofNat 8 (a.sideSum mem 0 * (field a.nr50 0 3 + 1) / 8))
  else (0#8, 0#8)

/-- A sample joins the buffer being filled; a full buffer is handed over (R470). -/
def Sampler.push (size : Nat) (x : Byte × Byte) (p : Sampler) : Sampler :=
  let buf := p.buf ++ [x]
  if buf.length = size then { p with buf := [], out := p.out ++ [buf] } else { p with buf := buf }

/-- The output sampler, third part of a tick (R470). -/
def Apu.tickSampler (par : Params) (mem : Memory) (a : Apu) : Apu :=
  if a.sampler.acc + 1 = par.samplePeriod then
    { a with sampler := Sampler.push par.audioBufSamples (a.mix mem) { a.sampler with acc := 0 } }
  else { a with sampler := { a.sampler with acc := a.sampler.acc + 1 } }

/-- `ApuTick()` (R451): sequencer, timers, sampler. -/
def Apu.tick (par : Params) (mem : Memory) (a : Apu) : Apu :=
  a.tickSequencer.tickTimers.tickSampler par mem

/-- `ApuAdvance(c)` (R451). -/
def apuAdvance (c : Nat) (s : State) : State :=
  { s with apu := iterate (Apu.tick s.par s.mem) c s.apu }

/-! ### Triggers and register writes (R457, R458) -/

/-- The length a trigger leaves: a zero counter is reloaded with the channel's maximum (R458). -/
def triggerLength (most n : Nat) : Nat := if n = 0 then most else n

/-- `Trigger(x)` of a pulse channel (R458), without the sweep part. -/
def Pulse.trigger (c : Pulse) : Pulse :=
  { c with
    on := true
    length := triggerLength 64 c.length
    timer := c.period
    env := field c.nr2 0 3
    vol := field c.nr2 4 4 }

/-- The sweep part of `Trigger(1)` (R458), with `f1`. -/
def Sweep.trigger (f : Nat) (w : Sweep) : Sweep :=
  { w with shadow := f, timer := w.reload, enabled := decide (field w.nr10 4 3 ≠ 0 ∨ field w.nr10 0 3 ≠ 0) }

/-- `Trigger(1)` (R458). -/
def Apu.trigger1 (a : Apu) : Apu :=
  let b := { a with pulse1 := a.pulse1.trigger, sweep := a.sweep.trigger a.pulse1.freq }
  if field b.sweep.nr10 0 3 ≠ 0 then b.sweepCheck else b

/-- `Trigger(3)` (R458). -/
def Wave.trigger (c : Wave) : Wave :=
  { c with on := true, length := triggerLength 256 c.length, timer := c.period, pos := 0 }

/-- `Trigger(4)` (R458). -/
def Noise.trigger (c : Noise) : Noise :=
  { c with
    on := true
    length := triggerLength 64 c.length
    timer := c.period
    env := field c.nr42 0 3
    vol := field c.nr42 4 4
    lfsr := 0x7FFF#15 }

/-- CPU write of NR11 or NR21: the length load (R457). -/
def Pulse.write1 (v : Byte) (c : Pulse) : Pulse := { c with nr1 := v, length := 64 - field v 0 6 }

/-- CPU write of NR31: the length load (R457). -/
def Wave.write31 (v : Byte) (c : Wave) : Wave := { c with nr31 := v, length := 256 - v.toNat }

/-- CPU write of NR41: the length load (R457). -/
def Noise.write41 (v : Byte) (c : Noise) : Noise := { c with nr41 := v, length := 64 - field v 0 6 }

/-- CPU write of NR14: stored, then the trigger (R457). -/
def Apu.write14 (v : Byte) (a : Apu) : Apu :=
  let b := { a with pulse1 := { a.pulse1 with nr4 := v } }
  if bit v 7 then b.trigger1 else b

/-- CPU write of NR24: stored, then the trigger (R457). -/
def Pulse.write4 (v : Byte) (c : Pulse) : Pulse :=
  let d := { c with nr4 := v }
  if bit v 7 then d.trigger else d

/-- CPU write of NR34: stored, then the trigger (R457). -/
def Wave.write34 (v : Byte) (c : Wave) : Wave :=
  let d := { c with nr34 := v }
  if bit v 7 then d.trigger else d

/-- CPU write of NR44: stored, then the trigger (R457). -/
def Noise.write44 (v : Byte) (c : Noise) : Noise :=
  let d := { c with nr44 := v }
  if bit v 7 then d.trigger else d

/-- CPU write of NR30: bit 7 clear turns channel 3 off (R457). -/
def Wave.write30 (v : Byte) (c : Wave) : Wave := { c with nr30 := v, on := bit v 7 && c.on }

/-- CPU write of NR52: bit 7 alone is stored, and clearing it turns every channel off (R44, R457). -/
def Apu.write52 (v : Byte) (a : Apu) : Apu :=
  if bit v 7 then { a with nr52 := v &&& 0x80#8 }
  else
    { a with
      nr52 := v &&& 0x80#8
      pulse1 := { a.pulse1 with on := false }
      pulse2 := { a.pulse2 with on := false }
      wave := { a.wave with on := false }
      noise := { a.noise with on := false } }

/-- The byte that has bit i set when b is true, else 0. -/
def bitWhen (b : Bool) (i : Nat) : Byte := if b then bitMask i else 0#8

/-- CPU read of NR52 (R44): the stored bit 7, ones in bits 6:4, the channel enables in bits 3:0. -/
def Apu.read52 (a : Apu) : Byte :=
  a.nr52 ||| 0x70#8 ||| bitWhen a.noise.on 3 ||| bitWhen a.wave.on 2 ||| bitWhen a.pulse2.on 1 ||| bitWhen a.pulse1.on 0

end Sys2Proof.Machine
end

