-- ==== Sys2Proof/Machine/Cartridge.lean ====
section
/-! DEFINITION. The cartridge: its image and external RAM (spec/20_memory.md R86, R93), its header (R100), and the
bank controller (R90, R101 to R104). -/

namespace Sys2Proof.Machine

/-- `RomByte(off)` (R86): 0xFF past the end of the image. -/
def romByte (c : Cart) (off : Nat) : Byte := if off < c.len then Memory.read c.bytes off else 0xFF#8

/-! ### The header (R100) -/

/-- Why there is no machine for a cartridge (R100, R383, R500 step 1). -/
inductive ConstructError where
  /-- The image is shorter than 0x0150 bytes. -/
  | imageTooShort
  /-- The image is longer than 2 MiB. -/
  | imageTooLong
  /-- The type code at 0x0147 is none of R100's. -/
  | unknownType
  /-- The ROM size code at 0x0148 is above 6. -/
  | unknownRomSize
  /-- The RAM size code at 0x0149 is above 5, and the controller is no MBC2. -/
  | unknownRamSize
  /-- A cold reset needs a boot ROM (R520). -/
  | noBootRom
  deriving DecidableEq, Repr

/-- The controller style of a type code (R100). -/
def typeOfCode (t : Byte) : Option MbcType :=
  match t.toNat with
  | 0x00 => some .romOnly
  | 0x01 => some .mbc1
  | 0x02 => some .mbc1
  | 0x03 => some .mbc1
  | 0x05 => some .mbc2
  | 0x06 => some .mbc2
  | 0x0F => some .mbc35
  | 0x10 => some .mbc35
  | 0x11 => some .mbc35
  | 0x12 => some .mbc35
  | 0x13 => some .mbc35
  | 0x19 => some .mbc35
  | 0x1A => some .mbc35
  | 0x1B => some .mbc35
  | 0x1C => some .mbc35
  | 0x1D => some .mbc35
  | 0x1E => some .mbc35
  | _ => none

/-- `ROM_BANKS` of a ROM size code (R100): `2 << S` for S up to 6. -/
def romBanksOfCode (c : Byte) : Option Nat := if c.toNat ≤ 6 then some (2 <<< c.toNat) else none

/-- `RAM_BANKS` of a RAM size code (R100). -/
def ramBanksOfCode (c : Byte) : Option Nat :=
  match c.toNat with
  | 0 => some 0
  | 1 => some 1
  | 2 => some 1
  | 3 => some 4
  | 4 => some 16
  | 5 => some 8
  | _ => none

/-- `RAM_BANKS` of a controller style and a RAM size code (R100). MBC2 ignores the code, whatever it is, and has its own 512
cells; its bank count, which no rule reads, is 0. DEDUCED (log entry 20). -/
def ramBanksOf (k : MbcType) (c : Byte) : Option Nat :=
  match k with
  | .mbc2 => some 0
  | .romOnly => ramBanksOfCode c
  | .mbc1 => ramBanksOfCode c
  | .mbc35 => ramBanksOfCode c

/-- The header of an image, or why it is rejected (R100, and the length limit of R383). -/
def parseHeader (c : Cart) : Except ConstructError Header :=
  if c.len < 0x150 then .error .imageTooShort
  else if 0x200000 < c.len then .error .imageTooLong
  else match typeOfCode (romByte c 0x147) with
    | none => .error .unknownType
    | some k => match romBanksOfCode (romByte c 0x148) with
      | none => .error .unknownRomSize
      | some rom => match ramBanksOf k (romByte c 0x149) with
        | none => .error .unknownRamSize
        | some ram => .ok { mbcType := k, romBanks := rom, ramBanks := ram }

/-! ### External RAM (R93) -/

/-- The offset in `XRAM` of the cell an address of the window reaches, or none where there is no cell (R93). -/
def xramCell (m : Mbc) (a : Nat) : Option Nat :=
  if !m.ramEnabled then none
  else match m.header.mbcType with
    | .mbc2 => some ((a - 0xA000) % 0x200)
    | _ => if m.header.ramBanks = 0 then none else some (m.ramBank * 0x2000 + (a - 0xA000))

/-- `XramRead(addr)` (R93). -/
def xramRead (m : Mbc) (xram : Memory) (a : Nat) : Byte :=
  match xramCell m a with
  | none => 0xFF#8
  | some off => if m.header.mbcType = .mbc2 then 0xF0#8 ||| (Memory.read xram off &&& 0x0F#8) else Memory.read xram off

/-- `XramWrite(addr, v)` (R93). -/
def xramWrite (m : Mbc) (xram : Memory) (a : Nat) (v : Byte) : Memory :=
  match xramCell m a with
  | none => xram
  | some off => Memory.write xram off (if m.header.mbcType = .mbc2 then v &&& 0x0F#8 else v)

/-! ### The bank controller (R90, R101 to R104) -/

/-- `toggleRam` (R101). -/
def toggleRam (a : Word) (v : Byte) (m : Mbc) : Mbc :=
  let on := v &&& 0x0F#8 == 0x0A#8
  match m.header.mbcType with
  | .romOnly => m
  | .mbc2 => if a.getLsbD 8 then m else { m with ramEnabled := on }
  | .mbc1 => { m with ramEnabled := on }
  | .mbc35 => { m with ramEnabled := on }

/-- The MBC1 remap of the unselectable banks 0x00, 0x20, 0x40, 0x60 to the next one (R102, R103). -/
def mbc1Remap (b : Nat) : Nat := if b = 0x00 ∨ b = 0x20 ∨ b = 0x40 ∨ b = 0x60 then b + 1 else b

/-- The remap of bank 0 to 1 of the other styles (R102). -/
def zeroRemap (b : Nat) : Nat := if b = 0 then 1 else b

/-- `changeRomBank` (R102): remap first, then reduce. -/
def changeRomBank (a : Word) (v : Byte) (m : Mbc) : Mbc :=
  match m.header.mbcType with
  | .romOnly => m
  | .mbc1 => { m with romBank := mbc1Remap ((m.romBank &&& 0x60) ||| (v.toNat % 0x20)) % m.header.romBanks }
  | .mbc2 =>
    if a.getLsbD 8 then { m with romBank := zeroRemap (v.toNat % 0x10) % m.header.romBanks } else m
  | .mbc35 => { m with romBank := zeroRemap (v.toNat % 0x80) % m.header.romBanks }

/-- `changeRamBank` (R103). -/
def changeRamBank (v : Byte) (m : Mbc) : Mbc :=
  match m.header.mbcType with
  | .romOnly => m
  | .mbc2 => m
  | .mbc1 => match m.bankMode with
    | .ramBanking => { m with ramBank := v.toNat % 4 % max m.header.ramBanks 1 }
    | .romBanking =>
      { m with romBank := mbc1Remap ((m.romBank % 0x20) ||| (v.toNat % 4 * 0x20)) % m.header.romBanks }
  | .mbc35 => { m with ramBank := v.toNat % 0x10 % max m.header.ramBanks 1 }

/-- `changeMode` (R104). -/
def changeMode (v : Byte) (m : Mbc) : Mbc :=
  match m.header.mbcType with
  | .romOnly => m
  | .mbc2 => m
  | .mbc35 => m
  | .mbc1 =>
    if bit v 0 then
      { m with bankMode := .ramBanking, romBank := zeroRemap (m.romBank % 0x20) % m.header.romBanks }
    else { m with bankMode := .romBanking, ramBank := 0 }

/-- `MbcWrite(addr, v)` (R90): the four address sub-ranges. -/
def mbcWrite (a : Word) (v : Byte) (m : Mbc) : Mbc :=
  if a.toNat < 0x2000 then toggleRam a v m
  else if a.toNat < 0x4000 then changeRomBank a v m
  else if a.toNat < 0x6000 then changeRamBank v m
  else changeMode v m

end Sys2Proof.Machine
end

