-- ==== Sys2Proof/Machine/Operands.lean ====
section
/-! DEFINITION. Every operand form that is a register, and the address of every operand form in memory:
spec/10_state.md R20, spec/30_encoding.md R144 to R146. The forms in memory are read and written by `memRead` and
`memWrite` of Sys2Proof/Machine/Ops.lean at these addresses. -/

namespace Sys2Proof.Machine

/-- `R8[v]`, a register (R144). -/
def Cpu.get8 (r : Reg8) (u : Cpu) : Byte :=
  match r with
  | .a => u.a
  | .b => u.b
  | .c => u.c
  | .d => u.d
  | .e => u.e
  | .h => u.h
  | .l => u.l

/-- A write of `R8[v]`, a register (R144). -/
def Cpu.set8 (r : Reg8) (v : Byte) (u : Cpu) : Cpu :=
  match r with
  | .a => { u with a := v }
  | .b => { u with b := v }
  | .c => { u with c := v }
  | .d => { u with d := v }
  | .e => { u with e := v }
  | .h => { u with h := v }
  | .l => { u with l := v }

/-- `BC = B ++ C` (R20). -/
def Cpu.bc (u : Cpu) : Word := cat u.b u.c

/-- `DE = D ++ E` (R20). -/
def Cpu.de (u : Cpu) : Word := cat u.d u.e

/-- `HL = H ++ L` (R20). -/
def Cpu.hl (u : Cpu) : Word := cat u.h u.l

/-- `AF = A ++ F` (R20). -/
def Cpu.af (u : Cpu) : Word := cat u.a u.f

/-- A write of BC writes both halves (R20). -/
def Cpu.setBc (v : Word) (u : Cpu) : Cpu := { u with b := hiByte v, c := loByte v }

/-- A write of DE writes both halves (R20). -/
def Cpu.setDe (v : Word) (u : Cpu) : Cpu := { u with d := hiByte v, e := loByte v }

/-- A write of HL writes both halves (R20). -/
def Cpu.setHl (v : Word) (u : Cpu) : Cpu := { u with h := hiByte v, l := loByte v }

/-- A write of AF by POP: bits 3:0 of F are forced to 0 (R22, R207). -/
def Cpu.setAf (v : Word) (u : Cpu) : Cpu := { u with a := hiByte v, f := loByte v &&& 0xF0#8 }

/-- `R16[v]` (R144). -/
def Cpu.get16 (p : Reg16) (u : Cpu) : Word :=
  match p with
  | .bc => u.bc
  | .de => u.de
  | .hl => u.hl
  | .sp => u.sp

/-- A write of `R16[v]` (R144). -/
def Cpu.set16 (p : Reg16) (v : Word) (u : Cpu) : Cpu :=
  match p with
  | .bc => u.setBc v
  | .de => u.setDe v
  | .hl => u.setHl v
  | .sp => { u with sp := v }

/-- `R16S[v]`, the pairs of PUSH (R144). -/
def Cpu.getStack (p : StackPair) (u : Cpu) : Word :=
  match p with
  | .bc => u.bc
  | .de => u.de
  | .hl => u.hl
  | .af => u.af

/-- A write of `R16S[v]`, by POP (R144, R207). -/
def Cpu.setStack (p : StackPair) (v : Word) (u : Cpu) : Cpu :=
  match p with
  | .bc => u.setBc v
  | .de => u.setDe v
  | .hl => u.setHl v
  | .af => u.setAf v

/-- The address `0xFF00 + n` of the LDH forms (R145, R181 to R184). -/
def highPage (n : Byte) : Word := 0xFF00#16 + zext16 n

/-- The target `8 * ttt` of RST (R325). -/
def rstTarget (t : Nat) : Word := BitVec.ofNat 16 (8 * t)

end Sys2Proof.Machine
end

