-- ==== Sys2Proof/Machine/Timer.lean ====
section
/-! DEFINITION. The interrupt requests and the TimerUnit: spec/60_exceptions.md R351, R356, R360, R361. -/

namespace Sys2Proof.Machine

/-- The five interrupt sources in priority order, highest first (R355). -/
inductive Source where
  | vblank | lcdStat | timer | serial | joypad
  deriving DecidableEq, Repr

/-- The IF and IE bit number of a source (R355). -/
def Source.num : Source → Nat
  | .vblank => 0
  | .lcdStat => 1
  | .timer => 2
  | .serial => 3
  | .joypad => 4

/-- `RequestInterrupt(n)`: `IF[n] <- 1` (R351). -/
def Irq.raise (n : Source) (q : Irq) : Irq := { q with request := q.request ||| bitMask n.num }

/-- `IF[n] <- 0`, that bit alone (R354). -/
def Irq.acknowledge (n : Source) (q : Irq) : Irq := { q with request := q.request &&& ~~~(bitMask n.num) }

/-- The pending set `P = IE & IF & 0x1F` (R356). -/
def Irq.pending (q : Irq) : Byte := q.enable &&& q.request &&& 0x1F#8

/-- The least n with `P[n] = 1` (R354), if there is one. -/
def firstPending (p : Byte) : Option Source :=
  if bit p 0 then some .vblank
  else if bit p 1 then some .lcdStat
  else if bit p 2 then some .timer
  else if bit p 3 then some .serial
  else if bit p 4 then some .joypad
  else none

/-- The vector of a source, `0x0040 + 8*n` (R355). -/
def Source.vector (n : Source) : Word := 0x0040#16 + BitVec.ofNat 16 (8 * n.num)

/-- `Period(TAC[1:0])`: cycles per TIMA increment (R360). -/
def timerPeriod (tac : Byte) : Nat :=
  match field tac 0 2 with
  | 0 => 1024
  | 1 => 16
  | 2 => 64
  | _ => 256

/-- `TimaIncrement()` (R361). -/
def timaIncrement (x : Timer × Irq) : Timer × Irq :=
  if x.1.tima = 0xFF#8 then ({ x.1 with tima := x.1.tma }, x.2.raise .timer)
  else ({ x.1 with tima := x.1.tima + 1#8 }, x.2)

/-- `TimerAdvance(n)` on the timer and IF (R360). The loop of R360 subtracts the period from `timaAcc` once for each
increment, which is a division with remainder; TAC does not change in it. -/
def timerTicks (n : Nat) (x : Timer × Irq) : Timer × Irq :=
  let t := { x.1 with divCounter := x.1.divCounter + BitVec.ofNat 16 n }
  if bit t.tac 2 then
    iterate timaIncrement ((t.timaAcc + n) / timerPeriod t.tac)
      ({ t with timaAcc := (t.timaAcc + n) % timerPeriod t.tac }, x.2)
  else (t, x.2)

/-- `TimerAdvance(n)` (R360). -/
def timerAdvance (n : Nat) (s : State) : State :=
  let x := timerTicks n (s.timer, s.irq)
  { s with timer := x.1, irq := x.2 }

/-- `RequestInterrupt(n)` on the whole state (R351). -/
def requestInterrupt (n : Source) (s : State) : State := { s with irq := s.irq.raise n }

end Sys2Proof.Machine
end

