-- ==== Sys2Proof/Machine/Ppu.lean ====
section
/-! DEFINITION. PixelPipeline (spec/61_ppu.md): the scanline and mode state machine, the rasterizer and the sprites. The
unit reads video RAM and OAM from the memory image, by bypass. -/

namespace Sys2Proof.Machine

/-! ### Colours (R412, R413) -/

/-- `TilePixel(lo, hi, k)` (R412): the k-th pixel from the left of a tile line. -/
def tilePixel (lo hi : Byte) (k : Nat) : BitVec 2 :=
  BitVec.ofNat 2 (2 * bitNat (bit hi (7 - k)) + bitNat (bit lo (7 - k)))

/-- `Shade(P, c) = P[2c+1 : 2c]` (R413). -/
def shade (p : Byte) (c : BitVec 2) : Nat := field p (2 * c.toNat) 2

/-- A grey level as an RGB triple. -/
def grey (v : Byte) : Rgb where
  red := v
  green := v
  blue := v

/-- `RAMP` (R413). -/
def ramp (k : Nat) : Rgb :=
  match k with
  | 0 => grey 245#8
  | 1 => grey 211#8
  | 2 => grey 169#8
  | _ => grey 0#8

/-! ### Background and window (R410, R411) -/

/-- `TileAddr(t)` (R411). -/
def tileAddr (unsignedIds : Bool) (t : Byte) : Nat :=
  if unsignedIds then 0x8000 + 16 * t.toNat
  else if t.toNat < 0x80 then 0x9000 + 16 * t.toNat
  else 0x8800 + 16 * (t.toNat - 0x80)

/-- Whether the window covers the pixel at column x of line ly (R410). -/
def Ppu.windowCovers (p : Ppu) (ly x : Nat) : Bool :=
  bit p.lcdc 5 && decide (p.wy.toNat ≤ ly) && decide (p.wx.toNat ≤ x + 7)

/-- The base of the tile map that LCDC bit i selects (R37, R410). -/
def Ppu.tileMap (p : Ppu) (i : Nat) : Nat := if bit p.lcdc i then 0x9C00 else 0x9800

/-- The colour code of a tile-map pixel: the tile index, its line, its pixel (R410). -/
def Ppu.mapPixel (mem : Memory) (p : Ppu) (map px py : Nat) : BitVec 2 :=
  let t := Memory.read mem (map + 32 * (py / 8) + px / 8)
  let base := tileAddr (bit p.lcdc 4) t
  tilePixel (Memory.read mem (base + 2 * (py % 8))) (Memory.read mem (base + 2 * (py % 8) + 1)) (px % 8)

/-- `CODE[ly][x]` of the background and window pass (R410). -/
def Ppu.bgCode (mem : Memory) (p : Ppu) (ly x : Nat) : BitVec 2 :=
  if bit p.lcdc 0 then
    if p.windowCovers ly x then
      p.mapPixel mem (p.tileMap 6) (x + 7 - p.wx.toNat) (ly - p.wy.toNat)
    else
      p.mapPixel mem (p.tileMap 3) ((x + p.scx.toNat) % 256) ((ly + p.scy.toNat) % 256)
  else 0#2

/-- `FB[ly][x]` of the background and window pass, from its colour code (R410). -/
def Ppu.bgPixel (p : Ppu) (c : BitVec 2) : Rgb :=
  if bit p.lcdc 0 then ramp (shade p.bgp c) else ramp 0

/-! ### Sprites (R420, R421) -/

/-- An OAM entry (R420). -/
structure Sprite where
  y : Byte
  x : Byte
  tile : Byte
  attr : Byte
  deriving DecidableEq, Repr

/-- OAM entry i (R420). -/
def spriteAt (mem : Memory) (i : Nat) : Sprite where
  y := Memory.read mem (0xFE00 + 4 * i)
  x := Memory.read mem (0xFE01 + 4 * i)
  tile := Memory.read mem (0xFE02 + 4 * i)
  attr := Memory.read mem (0xFE03 + 4 * i)

/-- The height of a sprite: 16 if `LCDC[2] = 1`, else 8 (R421). -/
def Ppu.spriteHeight (p : Ppu) : Nat := if bit p.lcdc 2 then 16 else 8

/-- The colour code sprite o puts at column x of line ly, or none where it does not reach (R421). The sprite's top line
is `Y - 16` and its left column `X - 8`, so it reaches line ly when `Y ≤ ly + 16 < Y + h` and column x when
`X ≤ x + 8 < X + 8`. -/
def Ppu.spriteCode (mem : Memory) (p : Ppu) (o : Sprite) (ly x : Nat) : Option (BitVec 2) :=
  let h := p.spriteHeight
  if o.y.toNat ≤ ly + 16 ∧ ly + 16 < o.y.toNat + h ∧ o.x.toNat ≤ x + 8 ∧ x + 8 < o.x.toNat + 8 then
    let line := ly + 16 - o.y.toNat
    let row := if bit o.attr 6 then h - 1 - line else line
    let k := x + 8 - o.x.toNat
    let tile := if h = 16 then o.tile &&& 0xFE#8 else o.tile
    let base := 0x8000 + 16 * tile.toNat + 2 * row
    some (tilePixel (Memory.read mem base) (Memory.read mem (base + 1)) (if bit o.attr 5 then 7 - k else k))
  else none

/-- The pixel at column x of line ly after sprite o is drawn over `under`, where the background code is `code`
(R421): transparent for colour code 0, hidden behind a nonzero background code when bit 7 of the attributes is set. -/
def Ppu.drawSprite (mem : Memory) (p : Ppu) (ly x : Nat) (code : BitVec 2) (under : Rgb) (o : Sprite) : Rgb :=
  match p.spriteCode mem o ly x with
  | none => under
  | some c =>
    if c = 0#2 then under
    else if bit o.attr 7 && decide (code ≠ 0#2) then under
    else ramp (shade (if bit o.attr 4 then p.obp1 else p.obp0) c)

/-- The pixel at column x of line ly after the sprite pass, all 40 entries in ascending order (R421). -/
def Ppu.spritePass (mem : Memory) (p : Ppu) (ly x : Nat) (code : BitVec 2) (under : Rgb) : Rgb :=
  if bit p.lcdc 1 then ((List.range 40).map (spriteAt mem)).foldl (p.drawSprite mem ly x code) under else under

/-! ### `Rasterize(ly)` (R410, R421) -/

/-- Row ly of `CODE`. -/
def Ppu.codeRow (mem : Memory) (p : Ppu) (ly : Nat) : List (BitVec 2) := (List.range 160).map (p.bgCode mem ly)

/-- Row ly of `FB`. -/
def Ppu.pixelRow (mem : Memory) (p : Ppu) (ly : Nat) : List Rgb :=
  (List.range 160).map fun x =>
    let c := p.bgCode mem ly x
    p.spritePass mem ly x c (p.bgPixel c)

/-- `Rasterize(ly)`: row ly of `FB` and `CODE` is filled. -/
def Ppu.rasterize (mem : Memory) (ly : Nat) (p : Ppu) : Ppu :=
  { p with fb := p.fb.set ly (p.pixelRow mem ly), code := p.code.set ly (p.codeRow mem ly) }

/-! ### The scanline counter and the modes (R402 to R405) -/

/-- The end of a scanline (R402): LY advances, then a visible line is rasterized, line 144 requests VBlank and signals
the frame, and 154 wraps to 0. -/
def lineEnd (mem : Memory) (x : Ppu × Irq) : Ppu × Irq :=
  let ly := x.1.ly + 1#8
  let p := { x.1 with budget := 456, ly := ly }
  if ly.toNat < 144 then (p.rasterize mem ly.toNat, x.2)
  else if ly.toNat = 144 then ({ p with frameReady := true }, x.2.raise .vblank)
  else if ly.toNat = 154 then ({ p with ly := 0#8 }, x.2)
  else (p, x.2)

/-- The mode at a line and a number of cycles into it (R403). -/
def modeAt (ly pos : Nat) : Nat :=
  if 144 ≤ ly then 1 else if pos < 80 then 2 else if pos < 252 then 3 else 0

/-- The current mode, `STAT[1:0]` (R38). -/
def Ppu.mode (p : Ppu) : Nat := field p.stat 0 2

/-- Whether the STAT enable bit of a mode is set (R403): bit 3 for mode 0, 4 for 1, 5 for 2; mode 3 has none. -/
def statEnable (stat : Byte) (m : Nat) : Bool :=
  match m with
  | 0 => bit stat 3
  | 1 => bit stat 4
  | 2 => bit stat 5
  | _ => false

/-- `UpdateMode()` (R403). -/
def updateMode (x : Ppu × Irq) : Ppu × Irq :=
  let m := modeAt x.1.ly.toNat (456 - x.1.budget)
  if m = x.1.mode then x
  else
    ({ x.1 with stat := (x.1.stat &&& 0xFC#8) ||| BitVec.ofNat 8 m },
     if statEnable x.1.stat m then x.2.raise .lcdStat else x.2)

/-- `UpdateCoincidence()` (R404). -/
def updateCoincidence (x : Ppu × Irq) : Ppu × Irq :=
  let coin := decide (x.1.ly = x.1.lyc)
  ({ x.1 with stat := (x.1.stat &&& 0xFB#8) ||| (if coin then 0x04#8 else 0#8), prevCoin := coin },
   if coin && !x.1.prevCoin && bit x.1.stat 6 then x.2.raise .lcdStat else x.2)

/-- `PpuTick()` (R402, R405). -/
def ppuTick (mem : Memory) (x : Ppu × Irq) : Ppu × Irq :=
  if bit x.1.lcdc 7 then
    let y := if x.1.budget - 1 = 0 then lineEnd mem x else ({ x.1 with budget := x.1.budget - 1 }, x.2)
    updateCoincidence (updateMode y)
  else x

/-- `PpuAdvance(c)` (R401). -/
def ppuAdvance (c : Nat) (s : State) : State :=
  let x := iterate (ppuTick s.mem) c (s.ppu, s.irq)
  { s with ppu := x.1, irq := x.2 }

/-! ### CPU writes of the registers with a write action (R37, R38, R40) -/

/-- CPU write of LCDC (R37): turning the LCD off resets LY, the scanline counter and the mode bits. -/
def Ppu.writeLcdc (v : Byte) (p : Ppu) : Ppu :=
  if bit p.lcdc 7 && !bit v 7 then
    { p with lcdc := v, ly := 0#8, budget := 456, stat := p.stat &&& 0xFC#8 }
  else { p with lcdc := v }

/-- CPU write of STAT (R38): bit 7 forced to 1, the low three bits kept. -/
def Ppu.writeStat (v : Byte) (p : Ppu) : Ppu :=
  { p with stat := 0x80#8 ||| (v &&& 0x78#8) ||| (p.stat &&& 0x07#8) }

/-- CPU write of LY (R40): LY becomes 0, the scanline counter keeps its value. -/
def Ppu.writeLy (p : Ppu) : Ppu := { p with ly := 0#8 }

end Sys2Proof.Machine
end

