-- ==== Sys2Proof/Machine/Ops.lean ====
section
/-! DEFINITION. The named operations over memory and registers: the address decoder and the I/O registers
(spec/20_memory.md, spec/10_state.md section 3), OAM DMA, the charged CPU bus accesses and the cycle accounting
(spec/60_exceptions.md R371), the stack, and the one exception entry of the machine, the interrupt dispatch
(R354), with the return from it (R323) beside it. -/

namespace Sys2Proof.Machine

/-! ### The address map (R85, R86) -/

/-- The regions of the address space (spec/20_memory.md section 2). -/
inductive Region where
  | romFixed | romBanked | vram | xram | wram | echo | oam | hole | io | hram | ie
  deriving DecidableEq, Repr

/-- The region an address lies in; exactly one (R85). -/
def regionOf (a : Nat) : Region :=
  if a < 0x4000 then .romFixed
  else if a < 0x8000 then .romBanked
  else if a < 0xA000 then .vram
  else if a < 0xC000 then .xram
  else if a < 0xE000 then .wram
  else if a < 0xFE00 then .echo
  else if a < 0xFEA0 then .oam
  else if a < 0xFF00 then .hole
  else if a < 0xFF80 then .io
  else if a < 0xFFFF then .hram
  else .ie

/-- The registers of 0xFF00 to 0xFF7F (R31 to R46). -/
inductive IoReg where
  | p1 | sb | sc | div | tima | tma | tac | irqFlag
  | nr10 | nr11 | nr12 | nr13 | nr14 | nr21 | nr22 | nr23 | nr24
  | nr30 | nr31 | nr32 | nr33 | nr34 | nr41 | nr42 | nr43 | nr44 | nr50 | nr51 | nr52
  | waveRam
  | lcdc | stat | scy | scx | ly | lyc | dma | bgp | obp0 | obp1 | wy | wx
  | boot
  /-- A plain stored byte (R46, and the unused 0xFF15 and 0xFF1F of R43). -/
  | plain
  deriving DecidableEq, Repr

/-- The register at address `0xFF00 + off` (R31 to R46). -/
def ioRegAt (off : Nat) : IoReg :=
  match off with
  | 0x00 => .p1
  | 0x01 => .sb
  | 0x02 => .sc
  | 0x04 => .div
  | 0x05 => .tima
  | 0x06 => .tma
  | 0x07 => .tac
  | 0x0F => .irqFlag
  | 0x10 => .nr10
  | 0x11 => .nr11
  | 0x12 => .nr12
  | 0x13 => .nr13
  | 0x14 => .nr14
  | 0x16 => .nr21
  | 0x17 => .nr22
  | 0x18 => .nr23
  | 0x19 => .nr24
  | 0x1A => .nr30
  | 0x1B => .nr31
  | 0x1C => .nr32
  | 0x1D => .nr33
  | 0x1E => .nr34
  | 0x20 => .nr41
  | 0x21 => .nr42
  | 0x22 => .nr43
  | 0x23 => .nr44
  | 0x24 => .nr50
  | 0x25 => .nr51
  | 0x26 => .nr52
  | 0x40 => .lcdc
  | 0x41 => .stat
  | 0x42 => .scy
  | 0x43 => .scx
  | 0x44 => .ly
  | 0x45 => .lyc
  | 0x46 => .dma
  | 0x47 => .bgp
  | 0x48 => .obp0
  | 0x49 => .obp1
  | 0x4A => .wy
  | 0x4B => .wx
  | 0x50 => .boot
  | n => if 0x30 ≤ n ∧ n ≤ 0x3F then .waveRam else .plain

/-- The register at an address of the I/O region. -/
def ioRegOf (a : Nat) : IoReg := ioRegAt (a - 0xFF00)

/-! ### Reads of the stored images (R86) -/

/-- The stored byte of an I/O register, `IO[addr]`; for DIV the high byte of the counter (R33, R86). -/
def ioStored (r : IoReg) (a : Nat) (s : State) : Byte :=
  match r with
  | .p1 => s.p1
  | .sb => s.sb
  | .sc => s.sc
  | .div => hiByte s.timer.divCounter
  | .tima => s.timer.tima
  | .tma => s.timer.tma
  | .tac => s.timer.tac
  | .irqFlag => s.irq.request
  | .nr10 => s.apu.sweep.nr10
  | .nr11 => s.apu.pulse1.nr1
  | .nr12 => s.apu.pulse1.nr2
  | .nr13 => s.apu.pulse1.nr3
  | .nr14 => s.apu.pulse1.nr4
  | .nr21 => s.apu.pulse2.nr1
  | .nr22 => s.apu.pulse2.nr2
  | .nr23 => s.apu.pulse2.nr3
  | .nr24 => s.apu.pulse2.nr4
  | .nr30 => s.apu.wave.nr30
  | .nr31 => s.apu.wave.nr31
  | .nr32 => s.apu.wave.nr32
  | .nr33 => s.apu.wave.nr33
  | .nr34 => s.apu.wave.nr34
  | .nr41 => s.apu.noise.nr41
  | .nr42 => s.apu.noise.nr42
  | .nr43 => s.apu.noise.nr43
  | .nr44 => s.apu.noise.nr44
  | .nr50 => s.apu.nr50
  | .nr51 => s.apu.nr51
  | .nr52 => s.apu.nr52
  | .waveRam => Memory.read s.mem a
  | .lcdc => s.ppu.lcdc
  | .stat => s.ppu.stat
  | .scy => s.ppu.scy
  | .scx => s.ppu.scx
  | .ly => s.ppu.ly
  | .lyc => s.ppu.lyc
  | .dma => s.dma.reg
  | .bgp => s.ppu.bgp
  | .obp0 => s.ppu.obp0
  | .obp1 => s.ppu.obp1
  | .wy => s.ppu.wy
  | .wx => s.ppu.wx
  | .boot => Memory.read s.mem a
  | .plain => Memory.read s.mem a

/-- `Load(addr)` and `RawRead(addr)` (R86): the pure read of the stored images. -/
def load (a : Nat) (s : State) : Byte :=
  match regionOf a with
  | .romFixed => romByte s.cart a
  | .romBanked => romByte s.cart (s.mbc.romBank * 0x4000 + (a - 0x4000))
  | .vram => Memory.read s.mem a
  | .xram => xramRead s.mbc s.xram a
  | .wram => Memory.read s.mem a
  | .echo => Memory.read s.mem (a - 0x2000)
  | .oam => Memory.read s.mem a
  | .hole => 0xFF#8
  | .io => ioStored (ioRegOf a) a s
  | .hram => Memory.read s.mem a
  | .ie => s.irq.enable

/-! ### The CPU read (R84) -/

/-- `low(J)`: the low nibble a P1 read gives for the joypad byte `joy` under the select lines of `p1` (R31, R381). -/
def joypadLow (p1 joy : Byte) : Byte :=
  0x0F#8 &&& (if bit p1 4 then 0x0F#8 else joy >>> 4) &&& (if bit p1 5 then 0x0F#8 else joy &&& 0x0F#8)

/-- The value a CPU read of an I/O register returns (R31 to R46). -/
def ioRead (r : IoReg) (a : Nat) (s : State) : Byte :=
  match r with
  | .p1 => 0xC0#8 ||| s.p1 ||| joypadLow s.p1 s.port.joy
  | .irqFlag => s.irq.request ||| 0xE0#8
  | .nr52 => s.apu.read52
  | r => ioStored r a s

/-- `Read(addr, isDebugPeek=true)` (R84, R385): the register read values, else `Load(addr)`. -/
def debugPeek (a : Word) (s : State) : Byte :=
  if regionOf a.toNat = .io then ioRead (ioRegOf a.toNat) a.toNat s else load a.toNat s

/-- `DMA_EXEMPT(addr)` (R107): the address lies in one of the exempt ranges. -/
def dmaExempt (par : Params) (a : Word) : Bool :=
  par.dmaExempt.any fun r => decide (r.1.toNat ≤ a.toNat) && decide (a.toNat ≤ r.2.toNat)

/-- Whether a running DMA transfer blocks a CPU access (R84, R85 step 2, R107). -/
def dmaBlocks (a : Word) (s : State) : Bool := s.dma.active && !dmaExempt s.par a

/-- Whether the PPU mode blocks a CPU access: video RAM in mode 3, OAM in modes 2 and 3 (R91, R96). -/
def ppuBlocks (a : Word) (s : State) : Bool :=
  match regionOf a.toNat with
  | .vram => s.ppu.mode == 3
  | .oam => s.ppu.mode == 2 || s.ppu.mode == 3
  | _ => false

/-- Steps 2 to 7 of `MemRead(addr, 1)` (R84): what the CPU reads, without the charge. -/
def cpuRead (a : Word) (s : State) : Byte :=
  if dmaBlocks a s then s.par.blockedRead
  else if s.bootOverlay && decide (a.toNat ≤ 0x00FF) then Memory.read s.bootRom a.toNat
  else if ppuBlocks a s then 0xFF#8
  else debugPeek a s

/-! ### OAM DMA (R105, R106) -/

/-- The OAM copy of R105: 160 bytes read by `Load` in `s`, stored from 0xFE00. The source is one page, so no byte of it
is read after the copy has changed it. -/
def dmaCopy (page : Nat) (s : State) : Memory :=
  (List.range 0xA0).foldl (fun m i => Memory.write m (0xFE00 + i) (load (page * 0x100 + i) s)) s.mem

/-- A CPU write of 0xFF46 (R41, R105). -/
def startDma (v : Byte) (s : State) : State :=
  let t := { s with dma := { reg := v, active := true, elapsed := 0 } }
  { t with mem := dmaCopy (min v.toNat s.par.dmaMaxPage.toNat) t }

/-- `DmaAdvance(c)` (R106). -/
def dmaAdvance (c : Nat) (s : State) : State :=
  if s.dma.active then
    { s with dma := { s.dma with
        elapsed := s.dma.elapsed + c
        active := decide (s.dma.elapsed + c < s.par.dmaCycles) } }
  else s

/-! ### The CPU write (R85) -/

/-- A plain store into `MEM`. -/
def storeMem (a : Nat) (v : Byte) (s : State) : State := { s with mem := Memory.write s.mem a v }

/-- A CPU write of SC (R32): stored, and with bit 7 set the byte in SB joins the serial output. -/
def writeSc (v : Byte) (s : State) : State :=
  if bit v 7 then { s with sc := v, port := { s.port with serialOut := s.port.serialOut ++ [s.sb] } }
  else { s with sc := v }

/-- The CPU-write action of an I/O register (R31 to R46, R457). -/
def ioWrite (r : IoReg) (a : Nat) (v : Byte) (s : State) : State :=
  match r with
  | .p1 => { s with p1 := v &&& 0x30#8 }
  | .sb => { s with sb := v }
  | .sc => writeSc v s
  | .div => { s with timer := { s.timer with divCounter := 0#16 } }
  | .tima => { s with timer := { s.timer with tima := v } }
  | .tma => { s with timer := { s.timer with tma := v } }
  | .tac => { s with timer := { s.timer with tac := v, timaAcc := 0 } }
  | .irqFlag => { s with irq := { s.irq with request := v &&& 0x1F#8 } }
  | .nr10 => { s with apu := { s.apu with sweep := { s.apu.sweep with nr10 := v } } }
  | .nr11 => { s with apu := { s.apu with pulse1 := s.apu.pulse1.write1 v } }
  | .nr12 => { s with apu := { s.apu with pulse1 := { s.apu.pulse1 with nr2 := v } } }
  | .nr13 => { s with apu := { s.apu with pulse1 := { s.apu.pulse1 with nr3 := v } } }
  | .nr14 => { s with apu := s.apu.write14 v }
  | .nr21 => { s with apu := { s.apu with pulse2 := s.apu.pulse2.write1 v } }
  | .nr22 => { s with apu := { s.apu with pulse2 := { s.apu.pulse2 with nr2 := v } } }
  | .nr23 => { s with apu := { s.apu with pulse2 := { s.apu.pulse2 with nr3 := v } } }
  | .nr24 => { s with apu := { s.apu with pulse2 := s.apu.pulse2.write4 v } }
  | .nr30 => { s with apu := { s.apu with wave := s.apu.wave.write30 v } }
  | .nr31 => { s with apu := { s.apu with wave := s.apu.wave.write31 v } }
  | .nr32 => { s with apu := { s.apu with wave := { s.apu.wave with nr32 := v } } }
  | .nr33 => { s with apu := { s.apu with wave := { s.apu.wave with nr33 := v } } }
  | .nr34 => { s with apu := { s.apu with wave := s.apu.wave.write34 v } }
  | .nr41 => { s with apu := { s.apu with noise := s.apu.noise.write41 v } }
  | .nr42 => { s with apu := { s.apu with noise := { s.apu.noise with nr42 := v } } }
  | .nr43 => { s with apu := { s.apu with noise := { s.apu.noise with nr43 := v } } }
  | .nr44 => { s with apu := { s.apu with noise := s.apu.noise.write44 v } }
  | .nr50 => { s with apu := { s.apu with nr50 := v } }
  | .nr51 => { s with apu := { s.apu with nr51 := v } }
  | .nr52 => { s with apu := s.apu.write52 v }
  | .waveRam => if bit s.apu.wave.nr30 7 then s else storeMem a v s
  | .lcdc => { s with ppu := s.ppu.writeLcdc v }
  | .stat => { s with ppu := s.ppu.writeStat v }
  | .scy => { s with ppu := { s.ppu with scy := v } }
  | .scx => { s with ppu := { s.ppu with scx := v } }
  | .ly => { s with ppu := s.ppu.writeLy }
  | .lyc => { s with ppu := { s.ppu with lyc := v } }
  | .dma => startDma v s
  | .bgp => { s with ppu := { s.ppu with bgp := v } }
  | .obp0 => { s with ppu := { s.ppu with obp0 := v } }
  | .obp1 => { s with ppu := { s.ppu with obp1 := v } }
  | .wy => { s with ppu := { s.ppu with wy := v } }
  | .wx => { s with ppu := { s.ppu with wx := v } }
  | .boot => storeMem a v { s with bootOverlay := false }
  | .plain => storeMem a v s

/-- Step 3 of `MemWrite(addr, 1, v)` where nothing blocks the access (R85): routing by region. -/
def routeWrite (a : Word) (v : Byte) (s : State) : State :=
  match regionOf a.toNat with
  | .romFixed => { s with mbc := mbcWrite a v s.mbc }
  | .romBanked => { s with mbc := mbcWrite a v s.mbc }
  | .vram => storeMem a.toNat v s
  | .xram => { s with xram := xramWrite s.mbc s.xram a.toNat v }
  | .wram => storeMem a.toNat v s
  | .echo => storeMem (a.toNat - 0x2000) v s
  | .oam => storeMem a.toNat v s
  | .hole => s
  | .io => ioWrite (ioRegOf a.toNat) a.toNat v s
  | .hram => storeMem a.toNat v s
  | .ie => { s with irq := { s.irq with enable := v } }

/-- Steps 2 and 3 of `MemWrite(addr, 1, v)` (R85): what a CPU write does, without the charge. -/
def cpuWrite (a : Word) (v : Byte) (s : State) : State :=
  if dmaBlocks a s then s
  else if ppuBlocks a s then s
  else routeWrite a v s

/-! ### Charged accesses and cycle accounting (R84, R85 step 1, R371) -/

/-- The charge of one bus access: four cycles to the timer and to `charged`. -/
def busTick (s : State) : State :=
  let t := timerAdvance 4 s
  { t with charged := t.charged + 4 }

/-- `MemRead(addr, 1)` (R84): the byte, and the state after the charge. -/
def memRead (a : Word) (s : State) : Byte × State := (cpuRead a (busTick s), busTick s)

/-- `MemWrite(addr, 1, v)` (R85). -/
def memWrite (a : Word) (v : Byte) (s : State) : State := cpuWrite a v (busTick s)

/-- The end of an instruction or a dispatch of c cycles (R371): the residual cycles reach the timer, and `charged` says
c until the peers have been fed. -/
def finish (c : Nat) (s : State) : State :=
  let t := timerAdvance (c - s.charged) s
  { t with charged := c }

/-- An instruction of c cycles whose operation left the state s is complete (R371, R372). -/
def complete (c : Nat) (s : State) : Result := .next (finish c s)

/-! ### Register writes on the whole state -/

/-- A change of the CPU registers alone. -/
def withCpu (f : Cpu → Cpu) (s : State) : State := { s with cpu := f s.cpu }

/-- `R8[v] <- v`, a register. -/
def setReg8 (r : Reg8) (v : Byte) (s : State) : State := withCpu (Cpu.set8 r v) s

/-- `A <- v`. -/
def setA (v : Byte) (s : State) : State := withCpu (fun u => { u with a := v }) s

/-- `F <- v`. -/
def setF (v : Byte) (s : State) : State := withCpu (fun u => { u with f := v }) s

/-- `(A, flags) <- x`. -/
def setAF (x : Byte × Byte) (s : State) : State := withCpu (fun u => { u with a := x.1, f := x.2 }) s

/-- `SP <- v`. -/
def setSp (v : Word) (s : State) : State := withCpu (fun u => { u with sp := v }) s

/-- `PC <- v`. -/
def setPc (v : Word) (s : State) : State := withCpu (fun u => { u with pc := v }) s

/-! ### The stack (R81, R206, R207) -/

/-- `SP <- SP - 1; MemWrite(SP, 1, v)`. -/
def pushByte (v : Byte) (s : State) : State :=
  let t := setSp (s.cpu.sp - 1#16) s
  memWrite t.cpu.sp v t

/-- A push of a word, the high byte first, at the higher address (R81). -/
def push16 (v : Word) (s : State) : State := pushByte (loByte v) (pushByte (hiByte v) s)

/-- `MemRead(SP, 1); SP <- SP + 1`. -/
def popByte (s : State) : Byte × State :=
  let x := memRead s.cpu.sp s
  (x.1, setSp (x.2.cpu.sp + 1#16) x.2)

/-- A pop of a word, the low byte first (R207). -/
def pop16 (s : State) : Word × State :=
  let lo := popByte s
  let hi := popByte lo.2
  (cat hi.1 lo.1, hi.2)

/-! ### Interrupt entry and return (R323, R353, R354) -/

/-- TAKING THE INTERRUPT n, the one exception entry of the machine (R354): IME and IF[n] are cleared, PC is pushed, PC
becomes the vector, and `INT_DISPATCH_CYCLES` are charged. -/
def takeInterrupt (n : Source) (s : State) : State :=
  let t := { s with cpu := { s.cpu with ime := false }, irq := s.irq.acknowledge n, charged := 0 }
  finish s.par.intDispatchCycles (setPc n.vector (push16 t.cpu.pc t))

/-- The return: pop PC (R320). -/
def popPc (s : State) : State :=
  let x := pop16 s
  setPc x.1 x.2

/-- The return from an interrupt (R323): pop PC, `IME <- 1`, `EiPending <- 0`. -/
def returnFromInterrupt (s : State) : State :=
  withCpu (fun u => { u with ime := true, eiPending := false }) (popPc s)

end Sys2Proof.Machine
end

