-- ==== Sys2Proof/Machine/Alu16.lean ====
section
/-! DEFINITION. spec/43_alu16.md R270 to R273: 16-bit arithmetic, each a meaning of its own
over the shared operations. The bytes of the instruction have been fetched: PC is past them and each has been charged. -/

namespace Sys2Proof.Machine

/-- `ADD HL,rr` (R270). -/
def addHl (p : Reg16) (s : State) : Result :=
  let x := add16 s.cpu.hl (s.cpu.get16 p) s.cpu.f
  complete 8 (withCpu (fun u => { u.setHl x.1 with f := x.2 }) s)

/-- `INC rr` and `DEC rr` (R271, R272): d is 1 or -1. -/
def stepPair (p : Reg16) (d : Word) (s : State) : Result :=
  complete 8 (withCpu (Cpu.set16 p (s.cpu.get16 p + d)) s)

/-- The effect of `ADD SP,e` (R273). -/
def addToSp (e : Byte) (s : State) : State :=
  let x := addSp s.cpu.sp e
  withCpu (fun u => { u with sp := x.1, f := x.2 }) s

/-- `INC BC` (R271). -/
def execIncBc (s : State) : Result := stepPair .bc 1#16 s

/-- `ADD HL,BC` (R270). -/
def execAddHlBc (s : State) : Result := addHl .bc s

/-- `DEC BC` (R272). -/
def execDecBc (s : State) : Result := stepPair .bc (-1#16) s

/-- `INC DE` (R271). -/
def execIncDe (s : State) : Result := stepPair .de 1#16 s

/-- `ADD HL,DE` (R270). -/
def execAddHlDe (s : State) : Result := addHl .de s

/-- `DEC DE` (R272). -/
def execDecDe (s : State) : Result := stepPair .de (-1#16) s

/-- `INC HL` (R271). -/
def execIncHl (s : State) : Result := stepPair .hl 1#16 s

/-- `ADD HL,HL` (R270). -/
def execAddHlHl (s : State) : Result := addHl .hl s

/-- `DEC HL` (R272). -/
def execDecHl (s : State) : Result := stepPair .hl (-1#16) s

/-- `INC SP` (R271). -/
def execIncSp (s : State) : Result := stepPair .sp 1#16 s

/-- `ADD HL,SP` (R270). -/
def execAddHlSp (s : State) : Result := addHl .sp s

/-- `DEC SP` (R272). -/
def execDecSp (s : State) : Result := stepPair .sp (-1#16) s

/-- `ADD SP,e` (R273). -/
def execAddSpE (e : Byte) (s : State) : Result := complete 16 (addToSp e s)

end Sys2Proof.Machine
end

