-- ==== Sys2Proof/Machine/Alu8.lean ====
section
/-! DEFINITION. spec/42_alu8.md R218 to R251: 8-bit arithmetic and logic, each a meaning of its own
over the shared operations. The bytes of the instruction have been fetched: PC is past them and each has been charged. -/

namespace Sys2Proof.Machine

/-- `(A, flags) <- op(A, v)`. -/
def aluStore (op : AluOp) (v : Byte) (s : State) : State := setAF (aluOp op s.cpu.a v s.cpu.f) s

/-- The register form of R218. -/
def aluReg8 (op : AluOp) (r : Reg8) (s : State) : Result := complete 4 (aluStore op (s.cpu.get8 r) s)

/-- The memory form of R218. -/
def aluMem (op : AluOp) (s : State) : Result :=
  let x := memRead s.cpu.hl s
  complete 8 (aluStore op x.1 x.2)

/-- The immediate form of R218. -/
def aluByte (op : AluOp) (n : Byte) (s : State) : Result := complete 8 (aluStore op n s)

/-- `INC r` (R244). -/
def incReg8 (r : Reg8) (s : State) : Result :=
  let x := inc8 (s.cpu.get8 r) s.cpu.f
  complete 4 (setF x.2 (setReg8 r x.1 s))

/-- `DEC r` (R246). -/
def decReg8 (r : Reg8) (s : State) : Result :=
  let x := dec8 (s.cpu.get8 r) s.cpu.f
  complete 4 (setF x.2 (setReg8 r x.1 s))

/-- `INC (HL)` and `DEC (HL)` (R245, R247): f is `inc8` or `dec8`. -/
def stepMem (f : Byte → Byte → Byte × Byte) (s : State) : Result :=
  let x := memRead s.cpu.hl s
  let y := f x.1 s.cpu.f
  complete 12 (setF y.2 (memWrite s.cpu.hl y.1 x.2))

/-- `INC B` (R244). -/
def execIncB (s : State) : Result := incReg8 .b s

/-- `DEC B` (R246). -/
def execDecB (s : State) : Result := decReg8 .b s

/-- `INC C` (R244). -/
def execIncC (s : State) : Result := incReg8 .c s

/-- `DEC C` (R246). -/
def execDecC (s : State) : Result := decReg8 .c s

/-- `INC D` (R244). -/
def execIncD (s : State) : Result := incReg8 .d s

/-- `DEC D` (R246). -/
def execDecD (s : State) : Result := decReg8 .d s

/-- `INC E` (R244). -/
def execIncE (s : State) : Result := incReg8 .e s

/-- `DEC E` (R246). -/
def execDecE (s : State) : Result := decReg8 .e s

/-- `INC H` (R244). -/
def execIncH (s : State) : Result := incReg8 .h s

/-- `DEC H` (R246). -/
def execDecH (s : State) : Result := decReg8 .h s

/-- `DAA` (R248). -/
def execDaa (s : State) : Result := complete 4 (setAF (daa s.cpu.a s.cpu.f) s)

/-- `INC L` (R244). -/
def execIncL (s : State) : Result := incReg8 .l s

/-- `DEC L` (R246). -/
def execDecL (s : State) : Result := decReg8 .l s

/-- `CPL` (R249). -/
def execCpl (s : State) : Result := complete 4 (setAF (~~~s.cpu.a, cplFlags s.cpu.f) s)

/-- `INC (HL)` (R245). -/
def execIncMHl (s : State) : Result := stepMem inc8 s

/-- `DEC (HL)` (R247). -/
def execDecMHl (s : State) : Result := stepMem dec8 s

/-- `SCF` (R250). -/
def execScf (s : State) : Result := complete 4 (setF (scfFlags s.cpu.f) s)

/-- `INC A` (R244). -/
def execIncA (s : State) : Result := incReg8 .a s

/-- `DEC A` (R246). -/
def execDecA (s : State) : Result := decReg8 .a s

/-- `CCF` (R251). -/
def execCcf (s : State) : Result := complete 4 (setF (ccfFlags s.cpu.f) s)

/-- `ADD A,B` (R220). -/
def execAddAB (s : State) : Result := aluReg8 .add .b s

/-- `ADD A,C` (R220). -/
def execAddAC (s : State) : Result := aluReg8 .add .c s

/-- `ADD A,D` (R220). -/
def execAddAD (s : State) : Result := aluReg8 .add .d s

/-- `ADD A,E` (R220). -/
def execAddAE (s : State) : Result := aluReg8 .add .e s

/-- `ADD A,H` (R220). -/
def execAddAH (s : State) : Result := aluReg8 .add .h s

/-- `ADD A,L` (R220). -/
def execAddAL (s : State) : Result := aluReg8 .add .l s

/-- `ADD A,(HL)` (R221). -/
def execAddAMHl (s : State) : Result := aluMem .add s

/-- `ADD A,A` (R220). -/
def execAddAA (s : State) : Result := aluReg8 .add .a s

/-- `ADC A,B` (R223). -/
def execAdcAB (s : State) : Result := aluReg8 .adc .b s

/-- `ADC A,C` (R223). -/
def execAdcAC (s : State) : Result := aluReg8 .adc .c s

/-- `ADC A,D` (R223). -/
def execAdcAD (s : State) : Result := aluReg8 .adc .d s

/-- `ADC A,E` (R223). -/
def execAdcAE (s : State) : Result := aluReg8 .adc .e s

/-- `ADC A,H` (R223). -/
def execAdcAH (s : State) : Result := aluReg8 .adc .h s

/-- `ADC A,L` (R223). -/
def execAdcAL (s : State) : Result := aluReg8 .adc .l s

/-- `ADC A,(HL)` (R224). -/
def execAdcAMHl (s : State) : Result := aluMem .adc s

/-- `ADC A,A` (R223). -/
def execAdcAA (s : State) : Result := aluReg8 .adc .a s

/-- `SUB B` (R226). -/
def execSubB (s : State) : Result := aluReg8 .sub .b s

/-- `SUB C` (R226). -/
def execSubC (s : State) : Result := aluReg8 .sub .c s

/-- `SUB D` (R226). -/
def execSubD (s : State) : Result := aluReg8 .sub .d s

/-- `SUB E` (R226). -/
def execSubE (s : State) : Result := aluReg8 .sub .e s

/-- `SUB H` (R226). -/
def execSubH (s : State) : Result := aluReg8 .sub .h s

/-- `SUB L` (R226). -/
def execSubL (s : State) : Result := aluReg8 .sub .l s

/-- `SUB (HL)` (R227). -/
def execSubMHl (s : State) : Result := aluMem .sub s

/-- `SUB A` (R226). -/
def execSubA (s : State) : Result := aluReg8 .sub .a s

/-- `SBC A,B` (R229). -/
def execSbcAB (s : State) : Result := aluReg8 .sbc .b s

/-- `SBC A,C` (R229). -/
def execSbcAC (s : State) : Result := aluReg8 .sbc .c s

/-- `SBC A,D` (R229). -/
def execSbcAD (s : State) : Result := aluReg8 .sbc .d s

/-- `SBC A,E` (R229). -/
def execSbcAE (s : State) : Result := aluReg8 .sbc .e s

/-- `SBC A,H` (R229). -/
def execSbcAH (s : State) : Result := aluReg8 .sbc .h s

/-- `SBC A,L` (R229). -/
def execSbcAL (s : State) : Result := aluReg8 .sbc .l s

/-- `SBC A,(HL)` (R230). -/
def execSbcAMHl (s : State) : Result := aluMem .sbc s

/-- `SBC A,A` (R229). -/
def execSbcAA (s : State) : Result := aluReg8 .sbc .a s

/-- `AND B` (R232). -/
def execAndB (s : State) : Result := aluReg8 .and .b s

/-- `AND C` (R232). -/
def execAndC (s : State) : Result := aluReg8 .and .c s

/-- `AND D` (R232). -/
def execAndD (s : State) : Result := aluReg8 .and .d s

/-- `AND E` (R232). -/
def execAndE (s : State) : Result := aluReg8 .and .e s

/-- `AND H` (R232). -/
def execAndH (s : State) : Result := aluReg8 .and .h s

/-- `AND L` (R232). -/
def execAndL (s : State) : Result := aluReg8 .and .l s

/-- `AND (HL)` (R233). -/
def execAndMHl (s : State) : Result := aluMem .and s

/-- `AND A` (R232). -/
def execAndA (s : State) : Result := aluReg8 .and .a s

/-- `XOR B` (R235). -/
def execXorB (s : State) : Result := aluReg8 .xor .b s

/-- `XOR C` (R235). -/
def execXorC (s : State) : Result := aluReg8 .xor .c s

/-- `XOR D` (R235). -/
def execXorD (s : State) : Result := aluReg8 .xor .d s

/-- `XOR E` (R235). -/
def execXorE (s : State) : Result := aluReg8 .xor .e s

/-- `XOR H` (R235). -/
def execXorH (s : State) : Result := aluReg8 .xor .h s

/-- `XOR L` (R235). -/
def execXorL (s : State) : Result := aluReg8 .xor .l s

/-- `XOR (HL)` (R236). -/
def execXorMHl (s : State) : Result := aluMem .xor s

/-- `XOR A` (R235). -/
def execXorA (s : State) : Result := aluReg8 .xor .a s

/-- `OR B` (R238). -/
def execOrB (s : State) : Result := aluReg8 .or .b s

/-- `OR C` (R238). -/
def execOrC (s : State) : Result := aluReg8 .or .c s

/-- `OR D` (R238). -/
def execOrD (s : State) : Result := aluReg8 .or .d s

/-- `OR E` (R238). -/
def execOrE (s : State) : Result := aluReg8 .or .e s

/-- `OR H` (R238). -/
def execOrH (s : State) : Result := aluReg8 .or .h s

/-- `OR L` (R238). -/
def execOrL (s : State) : Result := aluReg8 .or .l s

/-- `OR (HL)` (R239). -/
def execOrMHl (s : State) : Result := aluMem .or s

/-- `OR A` (R238). -/
def execOrA (s : State) : Result := aluReg8 .or .a s

/-- `CP B` (R241). -/
def execCpB (s : State) : Result := aluReg8 .cp .b s

/-- `CP C` (R241). -/
def execCpC (s : State) : Result := aluReg8 .cp .c s

/-- `CP D` (R241). -/
def execCpD (s : State) : Result := aluReg8 .cp .d s

/-- `CP E` (R241). -/
def execCpE (s : State) : Result := aluReg8 .cp .e s

/-- `CP H` (R241). -/
def execCpH (s : State) : Result := aluReg8 .cp .h s

/-- `CP L` (R241). -/
def execCpL (s : State) : Result := aluReg8 .cp .l s

/-- `CP (HL)` (R242). -/
def execCpMHl (s : State) : Result := aluMem .cp s

/-- `CP A` (R241). -/
def execCpA (s : State) : Result := aluReg8 .cp .a s

/-- `ADD A,n` (R222). -/
def execAddAN (n : Byte) (s : State) : Result := aluByte .add n s

/-- `ADC A,n` (R225). -/
def execAdcAN (n : Byte) (s : State) : Result := aluByte .adc n s

/-- `SUB n` (R228). -/
def execSubN (n : Byte) (s : State) : Result := aluByte .sub n s

/-- `SBC A,n` (R231). -/
def execSbcAN (n : Byte) (s : State) : Result := aluByte .sbc n s

/-- `AND n` (R234). -/
def execAndN (n : Byte) (s : State) : Result := aluByte .and n s

/-- `XOR n` (R237). -/
def execXorN (n : Byte) (s : State) : Result := aluByte .xor n s

/-- `OR n` (R240). -/
def execOrN (n : Byte) (s : State) : Result := aluByte .or n s

/-- `CP n` (R243). -/
def execCpN (n : Byte) (s : State) : Result := aluByte .cp n s

end Sys2Proof.Machine
end

