-- ==== Sys2Proof/Machine/Control.lean ====
section
/-! DEFINITION. spec/45_control.md R310 to R325: jumps, calls and returns, each a meaning of its own
over the shared operations. The bytes of the instruction have been fetched: PC is past them and each has been charged. -/

namespace Sys2Proof.Machine

/-- A conditional instruction (R310): the effect f in `taken` cycles when the condition holds, else nothing in `notTaken`
cycles. -/
def whenCond (cc : Cond) (taken notTaken : Nat) (f : State → State) (s : State) : Result :=
  if condHolds cc s.cpu.f then complete taken (f s) else complete notTaken s

/-- `PC <- PC + sext_16(e)` (R312). -/
def jumpBy (e : Byte) (s : State) : State := setPc (s.cpu.pc + sext16 e) s

/-- Push PC, then `PC <- a` (R316). -/
def callTo (a : Word) (s : State) : State := setPc a (push16 s.cpu.pc s)

/-- `JR e` (R312). -/
def execJrE (e : Byte) (s : State) : Result := complete 12 (jumpBy e s)

/-- `JR NZ,e` (R314). -/
def execJrNzE (e : Byte) (s : State) : Result := whenCond .nz 12 8 (jumpBy e) s

/-- `JR Z,e` (R314). -/
def execJrZE (e : Byte) (s : State) : Result := whenCond .z 12 8 (jumpBy e) s

/-- `JR NC,e` (R314). -/
def execJrNcE (e : Byte) (s : State) : Result := whenCond .nc 12 8 (jumpBy e) s

/-- `JR C,e` (R314). -/
def execJrCE (e : Byte) (s : State) : Result := whenCond .c 12 8 (jumpBy e) s

/-- `RET NZ` (R321). -/
def execRetNz (s : State) : Result := whenCond .nz 20 8 popPc s

/-- `JP NZ,nn` (R313). -/
def execJpNzNn (nn : Word) (s : State) : Result := whenCond .nz 16 12 (setPc nn) s

/-- `JP nn` (R311). -/
def execJpNn (nn : Word) (s : State) : Result := complete 16 (setPc nn s)

/-- `CALL NZ,nn` (R317). -/
def execCallNzNn (nn : Word) (s : State) : Result := whenCond .nz 24 12 (callTo nn) s

/-- `RST 00H` (R325). -/
def execRst00 (s : State) : Result := complete 16 (callTo (rstTarget 0) s)

/-- `RET Z` (R321). -/
def execRetZ (s : State) : Result := whenCond .z 20 8 popPc s

/-- `RET` (R320). -/
def execRet (s : State) : Result := complete 16 (popPc s)

/-- `JP Z,nn` (R313). -/
def execJpZNn (nn : Word) (s : State) : Result := whenCond .z 16 12 (setPc nn) s

/-- `CALL Z,nn` (R317). -/
def execCallZNn (nn : Word) (s : State) : Result := whenCond .z 24 12 (callTo nn) s

/-- `CALL nn` (R316). -/
def execCallNn (nn : Word) (s : State) : Result := complete 24 (callTo nn s)

/-- `RST 08H` (R325). -/
def execRst08 (s : State) : Result := complete 16 (callTo (rstTarget 1) s)

/-- `RET NC` (R321). -/
def execRetNc (s : State) : Result := whenCond .nc 20 8 popPc s

/-- `JP NC,nn` (R313). -/
def execJpNcNn (nn : Word) (s : State) : Result := whenCond .nc 16 12 (setPc nn) s

/-- `CALL NC,nn` (R317). -/
def execCallNcNn (nn : Word) (s : State) : Result := whenCond .nc 24 12 (callTo nn) s

/-- `RST 10H` (R325). -/
def execRst10 (s : State) : Result := complete 16 (callTo (rstTarget 2) s)

/-- `RET C` (R321). -/
def execRetC (s : State) : Result := whenCond .c 20 8 popPc s

/-- `RETI` (R323). -/
def execReti (s : State) : Result := complete 16 (returnFromInterrupt s)

/-- `JP C,nn` (R313). -/
def execJpCNn (nn : Word) (s : State) : Result := whenCond .c 16 12 (setPc nn) s

/-- `CALL C,nn` (R317). -/
def execCallCNn (nn : Word) (s : State) : Result := whenCond .c 24 12 (callTo nn) s

/-- `RST 18H` (R325). -/
def execRst18 (s : State) : Result := complete 16 (callTo (rstTarget 3) s)

/-- `RST 20H` (R325). -/
def execRst20 (s : State) : Result := complete 16 (callTo (rstTarget 4) s)

/-- `JP HL` (R315). -/
def execJpHl (s : State) : Result := complete 4 (setPc s.cpu.hl s)

/-- `RST 28H` (R325). -/
def execRst28 (s : State) : Result := complete 16 (callTo (rstTarget 5) s)

/-- `RST 30H` (R325). -/
def execRst30 (s : State) : Result := complete 16 (callTo (rstTarget 6) s)

/-- `RST 38H` (R325). -/
def execRst38 (s : State) : Result := complete 16 (callTo (rstTarget 7) s)

end Sys2Proof.Machine
end

