-- ==== Sys2Proof/Machine/Load16.lean ====
section
/-! DEFINITION. spec/41_load16.md R200 to R207: the 16-bit loads and the stack, each a meaning of its own
over the shared operations. The bytes of the instruction have been fetched: PC is past them and each has been charged. -/

namespace Sys2Proof.Machine

/-- The two stores of `LD (nn),SP` (R201): the low byte first. -/
def storeSp (nn : Word) (s : State) : State :=
  memWrite (nn + 1#16) (hiByte s.cpu.sp) (memWrite nn (loByte s.cpu.sp) s)

/-- The effect of `LD HL,SP+e` (R203). -/
def loadHlSp (e : Byte) (s : State) : State :=
  let x := addSp s.cpu.sp e
  withCpu (fun u => { u.setHl x.1 with f := x.2 }) s

/-- `PUSH rr` (R206). -/
def pushPairOp (p : StackPair) (s : State) : Result := complete 16 (push16 (s.cpu.getStack p) s)

/-- `POP rr` (R207). -/
def popPairOp (p : StackPair) (s : State) : Result :=
  let x := pop16 s
  complete 12 (withCpu (Cpu.setStack p x.1) x.2)

/-- `LD BC,nn` (R200). -/
def execLdBcNn (nn : Word) (s : State) : Result := complete 12 (withCpu (Cpu.set16 .bc nn) s)

/-- `LD (nn),SP` (R201). -/
def execLdMNnSp (nn : Word) (s : State) : Result := complete 20 (storeSp nn s)

/-- `LD DE,nn` (R200). -/
def execLdDeNn (nn : Word) (s : State) : Result := complete 12 (withCpu (Cpu.set16 .de nn) s)

/-- `LD HL,nn` (R200). -/
def execLdHlNn (nn : Word) (s : State) : Result := complete 12 (withCpu (Cpu.set16 .hl nn) s)

/-- `LD SP,nn` (R200). -/
def execLdSpNn (nn : Word) (s : State) : Result := complete 12 (withCpu (Cpu.set16 .sp nn) s)

/-- `POP BC` (R207). -/
def execPopBc (s : State) : Result := popPairOp .bc s

/-- `PUSH BC` (R206). -/
def execPushBc (s : State) : Result := pushPairOp .bc s

/-- `POP DE` (R207). -/
def execPopDe (s : State) : Result := popPairOp .de s

/-- `PUSH DE` (R206). -/
def execPushDe (s : State) : Result := pushPairOp .de s

/-- `POP HL` (R207). -/
def execPopHl (s : State) : Result := popPairOp .hl s

/-- `PUSH HL` (R206). -/
def execPushHl (s : State) : Result := pushPairOp .hl s

/-- `POP AF` (R207). -/
def execPopAf (s : State) : Result := popPairOp .af s

/-- `PUSH AF` (R206). -/
def execPushAf (s : State) : Result := pushPairOp .af s

/-- `LD HL,SP+e` (R203). -/
def execLdHlSpE (e : Byte) (s : State) : Result := complete 12 (loadHlSp e s)

/-- `LD SP,HL` (R202). -/
def execLdSpHl (s : State) : Result := complete 8 (setSp s.cpu.hl s)

end Sys2Proof.Machine
end

