-- ==== Sys2Proof/Machine/Load8.lean ====
section
/-! DEFINITION. spec/40_load8.md R170 to R188: the 8-bit loads and stores, each a meaning of its own
over the shared operations. The bytes of the instruction have been fetched: PC is past them and each has been charged. -/

namespace Sys2Proof.Machine

/-- `LD r,r'` (R170). -/
def ldReg (rd rs : Reg8) (s : State) : Result := complete 4 (setReg8 rd (s.cpu.get8 rs) s)

/-- `LD r,n` (R171). -/
def ldImm (rd : Reg8) (n : Byte) (s : State) : Result := complete 8 (setReg8 rd n s)

/-- `LD r,(HL)` (R172): read at the old HL. -/
def ldFromHl (rd : Reg8) (s : State) : Result :=
  let x := memRead s.cpu.hl s
  complete 8 (setReg8 rd x.1 x.2)

/-- `LD (HL),r` (R173). -/
def ldToHl (rs : Reg8) (s : State) : Result := complete 8 (memWrite s.cpu.hl (s.cpu.get8 rs) s)

/-- `A <- MemRead(a, 1)`, an instruction of c cycles (R175, R176, R179, R181, R183). -/
def loadA (c : Nat) (a : Word) (s : State) : Result :=
  let x := memRead a s
  complete c (setA x.1 x.2)

/-- `MemWrite(a, 1, A)`, an instruction of c cycles (R177, R178, R180, R182, R184). -/
def storeA (c : Nat) (a : Word) (s : State) : Result := complete c (memWrite a s.cpu.a s)

/-- `HL <- HL + d`. -/
def stepHl (d : Word) (s : State) : State := withCpu (fun u => u.setHl (u.hl + d)) s

/-- `MemWrite(HL, 1, A); HL <- HL + d` (R185, R187). -/
def storeAStep (d : Word) (s : State) : Result := complete 8 (stepHl d (memWrite s.cpu.hl s.cpu.a s))

/-- `A <- MemRead(HL, 1); HL <- HL + d` (R186, R188). -/
def loadAStep (d : Word) (s : State) : Result :=
  let x := memRead s.cpu.hl s
  complete 8 (stepHl d (setA x.1 x.2))

/-- `LD (BC),A` (R177). -/
def execLdMBcA (s : State) : Result := storeA 8 s.cpu.bc s

/-- `LD B,n` (R171). -/
def execLdBN (n : Byte) (s : State) : Result := ldImm .b n s

/-- `LD A,(BC)` (R175). -/
def execLdAMBc (s : State) : Result := loadA 8 s.cpu.bc s

/-- `LD C,n` (R171). -/
def execLdCN (n : Byte) (s : State) : Result := ldImm .c n s

/-- `LD (DE),A` (R178). -/
def execLdMDeA (s : State) : Result := storeA 8 s.cpu.de s

/-- `LD D,n` (R171). -/
def execLdDN (n : Byte) (s : State) : Result := ldImm .d n s

/-- `LD A,(DE)` (R176). -/
def execLdAMDe (s : State) : Result := loadA 8 s.cpu.de s

/-- `LD E,n` (R171). -/
def execLdEN (n : Byte) (s : State) : Result := ldImm .e n s

/-- `LD (HL+),A` (R185). -/
def execLdMHliA (s : State) : Result := storeAStep 1#16 s

/-- `LD H,n` (R171). -/
def execLdHN (n : Byte) (s : State) : Result := ldImm .h n s

/-- `LD A,(HL+)` (R186). -/
def execLdAMHli (s : State) : Result := loadAStep 1#16 s

/-- `LD L,n` (R171). -/
def execLdLN (n : Byte) (s : State) : Result := ldImm .l n s

/-- `LD (HL-),A` (R187). -/
def execLdMHldA (s : State) : Result := storeAStep (-1#16) s

/-- `LD (HL),n` (R174). -/
def execLdMHlN (n : Byte) (s : State) : Result := complete 12 (memWrite s.cpu.hl n s)

/-- `LD A,(HL-)` (R188). -/
def execLdAMHld (s : State) : Result := loadAStep (-1#16) s

/-- `LD A,n` (R171). -/
def execLdAN (n : Byte) (s : State) : Result := ldImm .a n s

/-- `LD B,B` (R170). -/
def execLdBB (s : State) : Result := ldReg .b .b s

/-- `LD B,C` (R170). -/
def execLdBC (s : State) : Result := ldReg .b .c s

/-- `LD B,D` (R170). -/
def execLdBD (s : State) : Result := ldReg .b .d s

/-- `LD B,E` (R170). -/
def execLdBE (s : State) : Result := ldReg .b .e s

/-- `LD B,H` (R170). -/
def execLdBH (s : State) : Result := ldReg .b .h s

/-- `LD B,L` (R170). -/
def execLdBL (s : State) : Result := ldReg .b .l s

/-- `LD B,(HL)` (R172). -/
def execLdBMHl (s : State) : Result := ldFromHl .b s

/-- `LD B,A` (R170). -/
def execLdBA (s : State) : Result := ldReg .b .a s

/-- `LD C,B` (R170). -/
def execLdCB (s : State) : Result := ldReg .c .b s

/-- `LD C,C` (R170). -/
def execLdCC (s : State) : Result := ldReg .c .c s

/-- `LD C,D` (R170). -/
def execLdCD (s : State) : Result := ldReg .c .d s

/-- `LD C,E` (R170). -/
def execLdCE (s : State) : Result := ldReg .c .e s

/-- `LD C,H` (R170). -/
def execLdCH (s : State) : Result := ldReg .c .h s

/-- `LD C,L` (R170). -/
def execLdCL (s : State) : Result := ldReg .c .l s

/-- `LD C,(HL)` (R172). -/
def execLdCMHl (s : State) : Result := ldFromHl .c s

/-- `LD C,A` (R170). -/
def execLdCA (s : State) : Result := ldReg .c .a s

/-- `LD D,B` (R170). -/
def execLdDB (s : State) : Result := ldReg .d .b s

/-- `LD D,C` (R170). -/
def execLdDC (s : State) : Result := ldReg .d .c s

/-- `LD D,D` (R170). -/
def execLdDD (s : State) : Result := ldReg .d .d s

/-- `LD D,E` (R170). -/
def execLdDE (s : State) : Result := ldReg .d .e s

/-- `LD D,H` (R170). -/
def execLdDH (s : State) : Result := ldReg .d .h s

/-- `LD D,L` (R170). -/
def execLdDL (s : State) : Result := ldReg .d .l s

/-- `LD D,(HL)` (R172). -/
def execLdDMHl (s : State) : Result := ldFromHl .d s

/-- `LD D,A` (R170). -/
def execLdDA (s : State) : Result := ldReg .d .a s

/-- `LD E,B` (R170). -/
def execLdEB (s : State) : Result := ldReg .e .b s

/-- `LD E,C` (R170). -/
def execLdEC (s : State) : Result := ldReg .e .c s

/-- `LD E,D` (R170). -/
def execLdED (s : State) : Result := ldReg .e .d s

/-- `LD E,E` (R170). -/
def execLdEE (s : State) : Result := ldReg .e .e s

/-- `LD E,H` (R170). -/
def execLdEH (s : State) : Result := ldReg .e .h s

/-- `LD E,L` (R170). -/
def execLdEL (s : State) : Result := ldReg .e .l s

/-- `LD E,(HL)` (R172). -/
def execLdEMHl (s : State) : Result := ldFromHl .e s

/-- `LD E,A` (R170). -/
def execLdEA (s : State) : Result := ldReg .e .a s

/-- `LD H,B` (R170). -/
def execLdHB (s : State) : Result := ldReg .h .b s

/-- `LD H,C` (R170). -/
def execLdHC (s : State) : Result := ldReg .h .c s

/-- `LD H,D` (R170). -/
def execLdHD (s : State) : Result := ldReg .h .d s

/-- `LD H,E` (R170). -/
def execLdHE (s : State) : Result := ldReg .h .e s

/-- `LD H,H` (R170). -/
def execLdHH (s : State) : Result := ldReg .h .h s

/-- `LD H,L` (R170). -/
def execLdHL (s : State) : Result := ldReg .h .l s

/-- `LD H,(HL)` (R172). -/
def execLdHMHl (s : State) : Result := ldFromHl .h s

/-- `LD H,A` (R170). -/
def execLdHA (s : State) : Result := ldReg .h .a s

/-- `LD L,B` (R170). -/
def execLdLB (s : State) : Result := ldReg .l .b s

/-- `LD L,C` (R170). -/
def execLdLC (s : State) : Result := ldReg .l .c s

/-- `LD L,D` (R170). -/
def execLdLD (s : State) : Result := ldReg .l .d s

/-- `LD L,E` (R170). -/
def execLdLE (s : State) : Result := ldReg .l .e s

/-- `LD L,H` (R170). -/
def execLdLH (s : State) : Result := ldReg .l .h s

/-- `LD L,L` (R170). -/
def execLdLL (s : State) : Result := ldReg .l .l s

/-- `LD L,(HL)` (R172). -/
def execLdLMHl (s : State) : Result := ldFromHl .l s

/-- `LD L,A` (R170). -/
def execLdLA (s : State) : Result := ldReg .l .a s

/-- `LD (HL),B` (R173). -/
def execLdMHlB (s : State) : Result := ldToHl .b s

/-- `LD (HL),C` (R173). -/
def execLdMHlC (s : State) : Result := ldToHl .c s

/-- `LD (HL),D` (R173). -/
def execLdMHlD (s : State) : Result := ldToHl .d s

/-- `LD (HL),E` (R173). -/
def execLdMHlE (s : State) : Result := ldToHl .e s

/-- `LD (HL),H` (R173). -/
def execLdMHlH (s : State) : Result := ldToHl .h s

/-- `LD (HL),L` (R173). -/
def execLdMHlL (s : State) : Result := ldToHl .l s

/-- `LD (HL),A` (R173). -/
def execLdMHlA (s : State) : Result := ldToHl .a s

/-- `LD A,B` (R170). -/
def execLdAB (s : State) : Result := ldReg .a .b s

/-- `LD A,C` (R170). -/
def execLdAC (s : State) : Result := ldReg .a .c s

/-- `LD A,D` (R170). -/
def execLdAD (s : State) : Result := ldReg .a .d s

/-- `LD A,E` (R170). -/
def execLdAE (s : State) : Result := ldReg .a .e s

/-- `LD A,H` (R170). -/
def execLdAH (s : State) : Result := ldReg .a .h s

/-- `LD A,L` (R170). -/
def execLdAL (s : State) : Result := ldReg .a .l s

/-- `LD A,(HL)` (R172). -/
def execLdAMHl (s : State) : Result := ldFromHl .a s

/-- `LD A,A` (R170). -/
def execLdAA (s : State) : Result := ldReg .a .a s

/-- `LDH (n),A` (R182). -/
def execLdhMNA (n : Byte) (s : State) : Result := storeA 12 (highPage n) s

/-- `LDH (C),A` (R184). -/
def execLdhMCA (s : State) : Result := storeA 8 (highPage s.cpu.c) s

/-- `LD (nn),A` (R180). -/
def execLdMNnA (nn : Word) (s : State) : Result := storeA 16 nn s

/-- `LDH A,(n)` (R181). -/
def execLdhAMN (n : Byte) (s : State) : Result := loadA 12 (highPage n) s

/-- `LDH A,(C)` (R183). -/
def execLdhAMC (s : State) : Result := loadA 8 (highPage s.cpu.c) s

/-- `LD A,(nn)` (R179). -/
def execLdAMNn (nn : Word) (s : State) : Result := loadA 16 nn s

end Sys2Proof.Machine
end

