-- ==== Sys2Proof/Machine/Rotate.lean ====
section
/-! DEFINITION. spec/44_rotate_shift_bit.md R280 to R306: rotates, shifts, SWAP and the bit instructions, each a meaning of its own
over the shared operations. The bytes of the instruction have been fetched: PC is past them and each has been charged. -/

namespace Sys2Proof.Machine

/-- RLCA, RRCA, RLA, RRA (R280 to R283). -/
def rotA (op : RotOp) (s : State) : Result :=
  let x := rotOp op s.cpu.a (flagC s.cpu.f)
  complete 4 (setAF (x.1, rotAFlags x) s)

/-- The register form of R285 to R299. -/
def rotReg8 (op : RotOp) (r : Reg8) (s : State) : Result :=
  let x := rotOp op (s.cpu.get8 r) (flagC s.cpu.f)
  complete 8 (setF (rotFlags x) (setReg8 r x.1 s))

/-- The memory form of R286 to R300. -/
def rotMem (op : RotOp) (s : State) : Result :=
  let x := memRead s.cpu.hl s
  let y := rotOp op x.1 (flagC s.cpu.f)
  complete 16 (setF (rotFlags y) (memWrite s.cpu.hl y.1 x.2))

/-- `BIT b,r` (R301). -/
def bitReg8 (b : Nat) (r : Reg8) (s : State) : Result :=
  complete 8 (setF (bitFlags b (s.cpu.get8 r) s.cpu.f) s)

/-- `BIT b,(HL)` (R302): nothing is written. -/
def bitMem (b : Nat) (s : State) : Result :=
  let x := memRead s.cpu.hl s
  complete 12 (setF (bitFlags b x.1 s.cpu.f) x.2)

/-- `RES b,r` (R303). -/
def resReg8 (b : Nat) (r : Reg8) (s : State) : Result := complete 8 (setReg8 r (resBit b (s.cpu.get8 r)) s)

/-- `SET b,r` (R305). -/
def setReg8Bit (b : Nat) (r : Reg8) (s : State) : Result := complete 8 (setReg8 r (setBit b (s.cpu.get8 r)) s)

/-- The read, change, write of R304 and R306. -/
def changeMem (f : Byte → Byte) (s : State) : Result :=
  let x := memRead s.cpu.hl s
  complete 16 (memWrite s.cpu.hl (f x.1) x.2)

/-- `RES b,(HL)` (R304): the write happens even when the bit was clear. -/
def resMem (b : Nat) (s : State) : Result := changeMem (resBit b) s

/-- `SET b,(HL)` (R306). -/
def setMem (b : Nat) (s : State) : Result := changeMem (setBit b) s

/-- `RLCA` (R280). -/
def execRlca (s : State) : Result := rotA .rlc s

/-- `RRCA` (R281). -/
def execRrca (s : State) : Result := rotA .rrc s

/-- `RLA` (R282). -/
def execRla (s : State) : Result := rotA .rl s

/-- `RRA` (R283). -/
def execRra (s : State) : Result := rotA .rr s

/-- `RLC B` (R285). -/
def execRlcB (s : State) : Result := rotReg8 .rlc .b s

/-- `RLC C` (R285). -/
def execRlcC (s : State) : Result := rotReg8 .rlc .c s

/-- `RLC D` (R285). -/
def execRlcD (s : State) : Result := rotReg8 .rlc .d s

/-- `RLC E` (R285). -/
def execRlcE (s : State) : Result := rotReg8 .rlc .e s

/-- `RLC H` (R285). -/
def execRlcH (s : State) : Result := rotReg8 .rlc .h s

/-- `RLC L` (R285). -/
def execRlcL (s : State) : Result := rotReg8 .rlc .l s

/-- `RLC (HL)` (R286). -/
def execRlcMHl (s : State) : Result := rotMem .rlc s

/-- `RLC A` (R285). -/
def execRlcA (s : State) : Result := rotReg8 .rlc .a s

/-- `RRC B` (R287). -/
def execRrcB (s : State) : Result := rotReg8 .rrc .b s

/-- `RRC C` (R287). -/
def execRrcC (s : State) : Result := rotReg8 .rrc .c s

/-- `RRC D` (R287). -/
def execRrcD (s : State) : Result := rotReg8 .rrc .d s

/-- `RRC E` (R287). -/
def execRrcE (s : State) : Result := rotReg8 .rrc .e s

/-- `RRC H` (R287). -/
def execRrcH (s : State) : Result := rotReg8 .rrc .h s

/-- `RRC L` (R287). -/
def execRrcL (s : State) : Result := rotReg8 .rrc .l s

/-- `RRC (HL)` (R288). -/
def execRrcMHl (s : State) : Result := rotMem .rrc s

/-- `RRC A` (R287). -/
def execRrcA (s : State) : Result := rotReg8 .rrc .a s

/-- `RL B` (R289). -/
def execRlB (s : State) : Result := rotReg8 .rl .b s

/-- `RL C` (R289). -/
def execRlC (s : State) : Result := rotReg8 .rl .c s

/-- `RL D` (R289). -/
def execRlD (s : State) : Result := rotReg8 .rl .d s

/-- `RL E` (R289). -/
def execRlE (s : State) : Result := rotReg8 .rl .e s

/-- `RL H` (R289). -/
def execRlH (s : State) : Result := rotReg8 .rl .h s

/-- `RL L` (R289). -/
def execRlL (s : State) : Result := rotReg8 .rl .l s

/-- `RL (HL)` (R290). -/
def execRlMHl (s : State) : Result := rotMem .rl s

/-- `RL A` (R289). -/
def execRlA (s : State) : Result := rotReg8 .rl .a s

/-- `RR B` (R291). -/
def execRrB (s : State) : Result := rotReg8 .rr .b s

/-- `RR C` (R291). -/
def execRrC (s : State) : Result := rotReg8 .rr .c s

/-- `RR D` (R291). -/
def execRrD (s : State) : Result := rotReg8 .rr .d s

/-- `RR E` (R291). -/
def execRrE (s : State) : Result := rotReg8 .rr .e s

/-- `RR H` (R291). -/
def execRrH (s : State) : Result := rotReg8 .rr .h s

/-- `RR L` (R291). -/
def execRrL (s : State) : Result := rotReg8 .rr .l s

/-- `RR (HL)` (R292). -/
def execRrMHl (s : State) : Result := rotMem .rr s

/-- `RR A` (R291). -/
def execRrA (s : State) : Result := rotReg8 .rr .a s

/-- `SLA B` (R293). -/
def execSlaB (s : State) : Result := rotReg8 .sla .b s

/-- `SLA C` (R293). -/
def execSlaC (s : State) : Result := rotReg8 .sla .c s

/-- `SLA D` (R293). -/
def execSlaD (s : State) : Result := rotReg8 .sla .d s

/-- `SLA E` (R293). -/
def execSlaE (s : State) : Result := rotReg8 .sla .e s

/-- `SLA H` (R293). -/
def execSlaH (s : State) : Result := rotReg8 .sla .h s

/-- `SLA L` (R293). -/
def execSlaL (s : State) : Result := rotReg8 .sla .l s

/-- `SLA (HL)` (R294). -/
def execSlaMHl (s : State) : Result := rotMem .sla s

/-- `SLA A` (R293). -/
def execSlaA (s : State) : Result := rotReg8 .sla .a s

/-- `SRA B` (R295). -/
def execSraB (s : State) : Result := rotReg8 .sra .b s

/-- `SRA C` (R295). -/
def execSraC (s : State) : Result := rotReg8 .sra .c s

/-- `SRA D` (R295). -/
def execSraD (s : State) : Result := rotReg8 .sra .d s

/-- `SRA E` (R295). -/
def execSraE (s : State) : Result := rotReg8 .sra .e s

/-- `SRA H` (R295). -/
def execSraH (s : State) : Result := rotReg8 .sra .h s

/-- `SRA L` (R295). -/
def execSraL (s : State) : Result := rotReg8 .sra .l s

/-- `SRA (HL)` (R296). -/
def execSraMHl (s : State) : Result := rotMem .sra s

/-- `SRA A` (R295). -/
def execSraA (s : State) : Result := rotReg8 .sra .a s

/-- `SWAP B` (R297). -/
def execSwapB (s : State) : Result := rotReg8 .swap .b s

/-- `SWAP C` (R297). -/
def execSwapC (s : State) : Result := rotReg8 .swap .c s

/-- `SWAP D` (R297). -/
def execSwapD (s : State) : Result := rotReg8 .swap .d s

/-- `SWAP E` (R297). -/
def execSwapE (s : State) : Result := rotReg8 .swap .e s

/-- `SWAP H` (R297). -/
def execSwapH (s : State) : Result := rotReg8 .swap .h s

/-- `SWAP L` (R297). -/
def execSwapL (s : State) : Result := rotReg8 .swap .l s

/-- `SWAP (HL)` (R298). -/
def execSwapMHl (s : State) : Result := rotMem .swap s

/-- `SWAP A` (R297). -/
def execSwapA (s : State) : Result := rotReg8 .swap .a s

/-- `SRL B` (R299). -/
def execSrlB (s : State) : Result := rotReg8 .srl .b s

/-- `SRL C` (R299). -/
def execSrlC (s : State) : Result := rotReg8 .srl .c s

/-- `SRL D` (R299). -/
def execSrlD (s : State) : Result := rotReg8 .srl .d s

/-- `SRL E` (R299). -/
def execSrlE (s : State) : Result := rotReg8 .srl .e s

/-- `SRL H` (R299). -/
def execSrlH (s : State) : Result := rotReg8 .srl .h s

/-- `SRL L` (R299). -/
def execSrlL (s : State) : Result := rotReg8 .srl .l s

/-- `SRL (HL)` (R300). -/
def execSrlMHl (s : State) : Result := rotMem .srl s

/-- `SRL A` (R299). -/
def execSrlA (s : State) : Result := rotReg8 .srl .a s

/-- `BIT 0,B` (R301). -/
def execBit0B (s : State) : Result := bitReg8 0 .b s

/-- `BIT 0,C` (R301). -/
def execBit0C (s : State) : Result := bitReg8 0 .c s

/-- `BIT 0,D` (R301). -/
def execBit0D (s : State) : Result := bitReg8 0 .d s

/-- `BIT 0,E` (R301). -/
def execBit0E (s : State) : Result := bitReg8 0 .e s

/-- `BIT 0,H` (R301). -/
def execBit0H (s : State) : Result := bitReg8 0 .h s

/-- `BIT 0,L` (R301). -/
def execBit0L (s : State) : Result := bitReg8 0 .l s

/-- `BIT 0,(HL)` (R302). -/
def execBit0MHl (s : State) : Result := bitMem 0 s

/-- `BIT 0,A` (R301). -/
def execBit0A (s : State) : Result := bitReg8 0 .a s

/-- `BIT 1,B` (R301). -/
def execBit1B (s : State) : Result := bitReg8 1 .b s

/-- `BIT 1,C` (R301). -/
def execBit1C (s : State) : Result := bitReg8 1 .c s

/-- `BIT 1,D` (R301). -/
def execBit1D (s : State) : Result := bitReg8 1 .d s

/-- `BIT 1,E` (R301). -/
def execBit1E (s : State) : Result := bitReg8 1 .e s

/-- `BIT 1,H` (R301). -/
def execBit1H (s : State) : Result := bitReg8 1 .h s

/-- `BIT 1,L` (R301). -/
def execBit1L (s : State) : Result := bitReg8 1 .l s

/-- `BIT 1,(HL)` (R302). -/
def execBit1MHl (s : State) : Result := bitMem 1 s

/-- `BIT 1,A` (R301). -/
def execBit1A (s : State) : Result := bitReg8 1 .a s

/-- `BIT 2,B` (R301). -/
def execBit2B (s : State) : Result := bitReg8 2 .b s

/-- `BIT 2,C` (R301). -/
def execBit2C (s : State) : Result := bitReg8 2 .c s

/-- `BIT 2,D` (R301). -/
def execBit2D (s : State) : Result := bitReg8 2 .d s

/-- `BIT 2,E` (R301). -/
def execBit2E (s : State) : Result := bitReg8 2 .e s

/-- `BIT 2,H` (R301). -/
def execBit2H (s : State) : Result := bitReg8 2 .h s

/-- `BIT 2,L` (R301). -/
def execBit2L (s : State) : Result := bitReg8 2 .l s

/-- `BIT 2,(HL)` (R302). -/
def execBit2MHl (s : State) : Result := bitMem 2 s

/-- `BIT 2,A` (R301). -/
def execBit2A (s : State) : Result := bitReg8 2 .a s

/-- `BIT 3,B` (R301). -/
def execBit3B (s : State) : Result := bitReg8 3 .b s

/-- `BIT 3,C` (R301). -/
def execBit3C (s : State) : Result := bitReg8 3 .c s

/-- `BIT 3,D` (R301). -/
def execBit3D (s : State) : Result := bitReg8 3 .d s

/-- `BIT 3,E` (R301). -/
def execBit3E (s : State) : Result := bitReg8 3 .e s

/-- `BIT 3,H` (R301). -/
def execBit3H (s : State) : Result := bitReg8 3 .h s

/-- `BIT 3,L` (R301). -/
def execBit3L (s : State) : Result := bitReg8 3 .l s

/-- `BIT 3,(HL)` (R302). -/
def execBit3MHl (s : State) : Result := bitMem 3 s

/-- `BIT 3,A` (R301). -/
def execBit3A (s : State) : Result := bitReg8 3 .a s

/-- `BIT 4,B` (R301). -/
def execBit4B (s : State) : Result := bitReg8 4 .b s

/-- `BIT 4,C` (R301). -/
def execBit4C (s : State) : Result := bitReg8 4 .c s

/-- `BIT 4,D` (R301). -/
def execBit4D (s : State) : Result := bitReg8 4 .d s

/-- `BIT 4,E` (R301). -/
def execBit4E (s : State) : Result := bitReg8 4 .e s

/-- `BIT 4,H` (R301). -/
def execBit4H (s : State) : Result := bitReg8 4 .h s

/-- `BIT 4,L` (R301). -/
def execBit4L (s : State) : Result := bitReg8 4 .l s

/-- `BIT 4,(HL)` (R302). -/
def execBit4MHl (s : State) : Result := bitMem 4 s

/-- `BIT 4,A` (R301). -/
def execBit4A (s : State) : Result := bitReg8 4 .a s

/-- `BIT 5,B` (R301). -/
def execBit5B (s : State) : Result := bitReg8 5 .b s

/-- `BIT 5,C` (R301). -/
def execBit5C (s : State) : Result := bitReg8 5 .c s

/-- `BIT 5,D` (R301). -/
def execBit5D (s : State) : Result := bitReg8 5 .d s

/-- `BIT 5,E` (R301). -/
def execBit5E (s : State) : Result := bitReg8 5 .e s

/-- `BIT 5,H` (R301). -/
def execBit5H (s : State) : Result := bitReg8 5 .h s

/-- `BIT 5,L` (R301). -/
def execBit5L (s : State) : Result := bitReg8 5 .l s

/-- `BIT 5,(HL)` (R302). -/
def execBit5MHl (s : State) : Result := bitMem 5 s

/-- `BIT 5,A` (R301). -/
def execBit5A (s : State) : Result := bitReg8 5 .a s

/-- `BIT 6,B` (R301). -/
def execBit6B (s : State) : Result := bitReg8 6 .b s

/-- `BIT 6,C` (R301). -/
def execBit6C (s : State) : Result := bitReg8 6 .c s

/-- `BIT 6,D` (R301). -/
def execBit6D (s : State) : Result := bitReg8 6 .d s

/-- `BIT 6,E` (R301). -/
def execBit6E (s : State) : Result := bitReg8 6 .e s

/-- `BIT 6,H` (R301). -/
def execBit6H (s : State) : Result := bitReg8 6 .h s

/-- `BIT 6,L` (R301). -/
def execBit6L (s : State) : Result := bitReg8 6 .l s

/-- `BIT 6,(HL)` (R302). -/
def execBit6MHl (s : State) : Result := bitMem 6 s

/-- `BIT 6,A` (R301). -/
def execBit6A (s : State) : Result := bitReg8 6 .a s

/-- `BIT 7,B` (R301). -/
def execBit7B (s : State) : Result := bitReg8 7 .b s

/-- `BIT 7,C` (R301). -/
def execBit7C (s : State) : Result := bitReg8 7 .c s

/-- `BIT 7,D` (R301). -/
def execBit7D (s : State) : Result := bitReg8 7 .d s

/-- `BIT 7,E` (R301). -/
def execBit7E (s : State) : Result := bitReg8 7 .e s

/-- `BIT 7,H` (R301). -/
def execBit7H (s : State) : Result := bitReg8 7 .h s

/-- `BIT 7,L` (R301). -/
def execBit7L (s : State) : Result := bitReg8 7 .l s

/-- `BIT 7,(HL)` (R302). -/
def execBit7MHl (s : State) : Result := bitMem 7 s

/-- `BIT 7,A` (R301). -/
def execBit7A (s : State) : Result := bitReg8 7 .a s

/-- `RES 0,B` (R303). -/
def execRes0B (s : State) : Result := resReg8 0 .b s

/-- `RES 0,C` (R303). -/
def execRes0C (s : State) : Result := resReg8 0 .c s

/-- `RES 0,D` (R303). -/
def execRes0D (s : State) : Result := resReg8 0 .d s

/-- `RES 0,E` (R303). -/
def execRes0E (s : State) : Result := resReg8 0 .e s

/-- `RES 0,H` (R303). -/
def execRes0H (s : State) : Result := resReg8 0 .h s

/-- `RES 0,L` (R303). -/
def execRes0L (s : State) : Result := resReg8 0 .l s

/-- `RES 0,(HL)` (R304). -/
def execRes0MHl (s : State) : Result := resMem 0 s

/-- `RES 0,A` (R303). -/
def execRes0A (s : State) : Result := resReg8 0 .a s

/-- `RES 1,B` (R303). -/
def execRes1B (s : State) : Result := resReg8 1 .b s

/-- `RES 1,C` (R303). -/
def execRes1C (s : State) : Result := resReg8 1 .c s

/-- `RES 1,D` (R303). -/
def execRes1D (s : State) : Result := resReg8 1 .d s

/-- `RES 1,E` (R303). -/
def execRes1E (s : State) : Result := resReg8 1 .e s

/-- `RES 1,H` (R303). -/
def execRes1H (s : State) : Result := resReg8 1 .h s

/-- `RES 1,L` (R303). -/
def execRes1L (s : State) : Result := resReg8 1 .l s

/-- `RES 1,(HL)` (R304). -/
def execRes1MHl (s : State) : Result := resMem 1 s

/-- `RES 1,A` (R303). -/
def execRes1A (s : State) : Result := resReg8 1 .a s

/-- `RES 2,B` (R303). -/
def execRes2B (s : State) : Result := resReg8 2 .b s

/-- `RES 2,C` (R303). -/
def execRes2C (s : State) : Result := resReg8 2 .c s

/-- `RES 2,D` (R303). -/
def execRes2D (s : State) : Result := resReg8 2 .d s

/-- `RES 2,E` (R303). -/
def execRes2E (s : State) : Result := resReg8 2 .e s

/-- `RES 2,H` (R303). -/
def execRes2H (s : State) : Result := resReg8 2 .h s

/-- `RES 2,L` (R303). -/
def execRes2L (s : State) : Result := resReg8 2 .l s

/-- `RES 2,(HL)` (R304). -/
def execRes2MHl (s : State) : Result := resMem 2 s

/-- `RES 2,A` (R303). -/
def execRes2A (s : State) : Result := resReg8 2 .a s

/-- `RES 3,B` (R303). -/
def execRes3B (s : State) : Result := resReg8 3 .b s

/-- `RES 3,C` (R303). -/
def execRes3C (s : State) : Result := resReg8 3 .c s

/-- `RES 3,D` (R303). -/
def execRes3D (s : State) : Result := resReg8 3 .d s

/-- `RES 3,E` (R303). -/
def execRes3E (s : State) : Result := resReg8 3 .e s

/-- `RES 3,H` (R303). -/
def execRes3H (s : State) : Result := resReg8 3 .h s

/-- `RES 3,L` (R303). -/
def execRes3L (s : State) : Result := resReg8 3 .l s

/-- `RES 3,(HL)` (R304). -/
def execRes3MHl (s : State) : Result := resMem 3 s

/-- `RES 3,A` (R303). -/
def execRes3A (s : State) : Result := resReg8 3 .a s

/-- `RES 4,B` (R303). -/
def execRes4B (s : State) : Result := resReg8 4 .b s

/-- `RES 4,C` (R303). -/
def execRes4C (s : State) : Result := resReg8 4 .c s

/-- `RES 4,D` (R303). -/
def execRes4D (s : State) : Result := resReg8 4 .d s

/-- `RES 4,E` (R303). -/
def execRes4E (s : State) : Result := resReg8 4 .e s

/-- `RES 4,H` (R303). -/
def execRes4H (s : State) : Result := resReg8 4 .h s

/-- `RES 4,L` (R303). -/
def execRes4L (s : State) : Result := resReg8 4 .l s

/-- `RES 4,(HL)` (R304). -/
def execRes4MHl (s : State) : Result := resMem 4 s

/-- `RES 4,A` (R303). -/
def execRes4A (s : State) : Result := resReg8 4 .a s

/-- `RES 5,B` (R303). -/
def execRes5B (s : State) : Result := resReg8 5 .b s

/-- `RES 5,C` (R303). -/
def execRes5C (s : State) : Result := resReg8 5 .c s

/-- `RES 5,D` (R303). -/
def execRes5D (s : State) : Result := resReg8 5 .d s

/-- `RES 5,E` (R303). -/
def execRes5E (s : State) : Result := resReg8 5 .e s

/-- `RES 5,H` (R303). -/
def execRes5H (s : State) : Result := resReg8 5 .h s

/-- `RES 5,L` (R303). -/
def execRes5L (s : State) : Result := resReg8 5 .l s

/-- `RES 5,(HL)` (R304). -/
def execRes5MHl (s : State) : Result := resMem 5 s

/-- `RES 5,A` (R303). -/
def execRes5A (s : State) : Result := resReg8 5 .a s

/-- `RES 6,B` (R303). -/
def execRes6B (s : State) : Result := resReg8 6 .b s

/-- `RES 6,C` (R303). -/
def execRes6C (s : State) : Result := resReg8 6 .c s

/-- `RES 6,D` (R303). -/
def execRes6D (s : State) : Result := resReg8 6 .d s

/-- `RES 6,E` (R303). -/
def execRes6E (s : State) : Result := resReg8 6 .e s

/-- `RES 6,H` (R303). -/
def execRes6H (s : State) : Result := resReg8 6 .h s

/-- `RES 6,L` (R303). -/
def execRes6L (s : State) : Result := resReg8 6 .l s

/-- `RES 6,(HL)` (R304). -/
def execRes6MHl (s : State) : Result := resMem 6 s

/-- `RES 6,A` (R303). -/
def execRes6A (s : State) : Result := resReg8 6 .a s

/-- `RES 7,B` (R303). -/
def execRes7B (s : State) : Result := resReg8 7 .b s

/-- `RES 7,C` (R303). -/
def execRes7C (s : State) : Result := resReg8 7 .c s

/-- `RES 7,D` (R303). -/
def execRes7D (s : State) : Result := resReg8 7 .d s

/-- `RES 7,E` (R303). -/
def execRes7E (s : State) : Result := resReg8 7 .e s

/-- `RES 7,H` (R303). -/
def execRes7H (s : State) : Result := resReg8 7 .h s

/-- `RES 7,L` (R303). -/
def execRes7L (s : State) : Result := resReg8 7 .l s

/-- `RES 7,(HL)` (R304). -/
def execRes7MHl (s : State) : Result := resMem 7 s

/-- `RES 7,A` (R303). -/
def execRes7A (s : State) : Result := resReg8 7 .a s

/-- `SET 0,B` (R305). -/
def execSet0B (s : State) : Result := setReg8Bit 0 .b s

/-- `SET 0,C` (R305). -/
def execSet0C (s : State) : Result := setReg8Bit 0 .c s

/-- `SET 0,D` (R305). -/
def execSet0D (s : State) : Result := setReg8Bit 0 .d s

/-- `SET 0,E` (R305). -/
def execSet0E (s : State) : Result := setReg8Bit 0 .e s

/-- `SET 0,H` (R305). -/
def execSet0H (s : State) : Result := setReg8Bit 0 .h s

/-- `SET 0,L` (R305). -/
def execSet0L (s : State) : Result := setReg8Bit 0 .l s

/-- `SET 0,(HL)` (R306). -/
def execSet0MHl (s : State) : Result := setMem 0 s

/-- `SET 0,A` (R305). -/
def execSet0A (s : State) : Result := setReg8Bit 0 .a s

/-- `SET 1,B` (R305). -/
def execSet1B (s : State) : Result := setReg8Bit 1 .b s

/-- `SET 1,C` (R305). -/
def execSet1C (s : State) : Result := setReg8Bit 1 .c s

/-- `SET 1,D` (R305). -/
def execSet1D (s : State) : Result := setReg8Bit 1 .d s

/-- `SET 1,E` (R305). -/
def execSet1E (s : State) : Result := setReg8Bit 1 .e s

/-- `SET 1,H` (R305). -/
def execSet1H (s : State) : Result := setReg8Bit 1 .h s

/-- `SET 1,L` (R305). -/
def execSet1L (s : State) : Result := setReg8Bit 1 .l s

/-- `SET 1,(HL)` (R306). -/
def execSet1MHl (s : State) : Result := setMem 1 s

/-- `SET 1,A` (R305). -/
def execSet1A (s : State) : Result := setReg8Bit 1 .a s

/-- `SET 2,B` (R305). -/
def execSet2B (s : State) : Result := setReg8Bit 2 .b s

/-- `SET 2,C` (R305). -/
def execSet2C (s : State) : Result := setReg8Bit 2 .c s

/-- `SET 2,D` (R305). -/
def execSet2D (s : State) : Result := setReg8Bit 2 .d s

/-- `SET 2,E` (R305). -/
def execSet2E (s : State) : Result := setReg8Bit 2 .e s

/-- `SET 2,H` (R305). -/
def execSet2H (s : State) : Result := setReg8Bit 2 .h s

/-- `SET 2,L` (R305). -/
def execSet2L (s : State) : Result := setReg8Bit 2 .l s

/-- `SET 2,(HL)` (R306). -/
def execSet2MHl (s : State) : Result := setMem 2 s

/-- `SET 2,A` (R305). -/
def execSet2A (s : State) : Result := setReg8Bit 2 .a s

/-- `SET 3,B` (R305). -/
def execSet3B (s : State) : Result := setReg8Bit 3 .b s

/-- `SET 3,C` (R305). -/
def execSet3C (s : State) : Result := setReg8Bit 3 .c s

/-- `SET 3,D` (R305). -/
def execSet3D (s : State) : Result := setReg8Bit 3 .d s

/-- `SET 3,E` (R305). -/
def execSet3E (s : State) : Result := setReg8Bit 3 .e s

/-- `SET 3,H` (R305). -/
def execSet3H (s : State) : Result := setReg8Bit 3 .h s

/-- `SET 3,L` (R305). -/
def execSet3L (s : State) : Result := setReg8Bit 3 .l s

/-- `SET 3,(HL)` (R306). -/
def execSet3MHl (s : State) : Result := setMem 3 s

/-- `SET 3,A` (R305). -/
def execSet3A (s : State) : Result := setReg8Bit 3 .a s

/-- `SET 4,B` (R305). -/
def execSet4B (s : State) : Result := setReg8Bit 4 .b s

/-- `SET 4,C` (R305). -/
def execSet4C (s : State) : Result := setReg8Bit 4 .c s

/-- `SET 4,D` (R305). -/
def execSet4D (s : State) : Result := setReg8Bit 4 .d s

/-- `SET 4,E` (R305). -/
def execSet4E (s : State) : Result := setReg8Bit 4 .e s

/-- `SET 4,H` (R305). -/
def execSet4H (s : State) : Result := setReg8Bit 4 .h s

/-- `SET 4,L` (R305). -/
def execSet4L (s : State) : Result := setReg8Bit 4 .l s

/-- `SET 4,(HL)` (R306). -/
def execSet4MHl (s : State) : Result := setMem 4 s

/-- `SET 4,A` (R305). -/
def execSet4A (s : State) : Result := setReg8Bit 4 .a s

/-- `SET 5,B` (R305). -/
def execSet5B (s : State) : Result := setReg8Bit 5 .b s

/-- `SET 5,C` (R305). -/
def execSet5C (s : State) : Result := setReg8Bit 5 .c s

/-- `SET 5,D` (R305). -/
def execSet5D (s : State) : Result := setReg8Bit 5 .d s

/-- `SET 5,E` (R305). -/
def execSet5E (s : State) : Result := setReg8Bit 5 .e s

/-- `SET 5,H` (R305). -/
def execSet5H (s : State) : Result := setReg8Bit 5 .h s

/-- `SET 5,L` (R305). -/
def execSet5L (s : State) : Result := setReg8Bit 5 .l s

/-- `SET 5,(HL)` (R306). -/
def execSet5MHl (s : State) : Result := setMem 5 s

/-- `SET 5,A` (R305). -/
def execSet5A (s : State) : Result := setReg8Bit 5 .a s

/-- `SET 6,B` (R305). -/
def execSet6B (s : State) : Result := setReg8Bit 6 .b s

/-- `SET 6,C` (R305). -/
def execSet6C (s : State) : Result := setReg8Bit 6 .c s

/-- `SET 6,D` (R305). -/
def execSet6D (s : State) : Result := setReg8Bit 6 .d s

/-- `SET 6,E` (R305). -/
def execSet6E (s : State) : Result := setReg8Bit 6 .e s

/-- `SET 6,H` (R305). -/
def execSet6H (s : State) : Result := setReg8Bit 6 .h s

/-- `SET 6,L` (R305). -/
def execSet6L (s : State) : Result := setReg8Bit 6 .l s

/-- `SET 6,(HL)` (R306). -/
def execSet6MHl (s : State) : Result := setMem 6 s

/-- `SET 6,A` (R305). -/
def execSet6A (s : State) : Result := setReg8Bit 6 .a s

/-- `SET 7,B` (R305). -/
def execSet7B (s : State) : Result := setReg8Bit 7 .b s

/-- `SET 7,C` (R305). -/
def execSet7C (s : State) : Result := setReg8Bit 7 .c s

/-- `SET 7,D` (R305). -/
def execSet7D (s : State) : Result := setReg8Bit 7 .d s

/-- `SET 7,E` (R305). -/
def execSet7E (s : State) : Result := setReg8Bit 7 .e s

/-- `SET 7,H` (R305). -/
def execSet7H (s : State) : Result := setReg8Bit 7 .h s

/-- `SET 7,L` (R305). -/
def execSet7L (s : State) : Result := setReg8Bit 7 .l s

/-- `SET 7,(HL)` (R306). -/
def execSet7MHl (s : State) : Result := setMem 7 s

/-- `SET 7,A` (R305). -/
def execSet7A (s : State) : Result := setReg8Bit 7 .a s

end Sys2Proof.Machine
end

