-- ==== Sys2Proof/Machine/System.lean ====
section
/-! DEFINITION. spec/46_system.md R330 to R336: NOP, HALT, STOP, DI, EI and the unassigned bytes, each a meaning of its own
over the shared operations. The bytes of the instruction have been fetched: PC is past them and each has been charged. -/

namespace Sys2Proof.Machine

/-- The effect of HALT (R331): halt, or with IME = 0 and an enabled request pending, set the HALT-bug latch. Under
`EI_DELAY = 1` an armed EI counts as IME = 1 (R334). -/
def haltEffect (s : State) : State :=
  if s.cpu.ime || (s.par.eiDelay && s.cpu.eiPending) || decide (s.irq.pending = 0#8) then
    withCpu (fun u => { u with halted := true }) s
  else withCpu (fun u => { u with haltBug := true }) s

/-- The effect of EI (R334): with IME already 1 nothing changes; else IME at once, or with `EI_DELAY = 1` the latch. That
the latch too is left alone with IME already 1 is read from the rule's corner case and from R357, against the unconditional
`EiPending <- 1` of its Operation. DEDUCED (log entry 19). -/
def enableInterrupts (s : State) : State :=
  if s.cpu.ime then s
  else if s.par.eiDelay then withCpu (fun u => { u with eiPending := true }) s
  else withCpu (fun u => { u with ime := true }) s

/-- `NOP` (R330). -/
def execNop (s : State) : Result := complete 4 s

/-- `STOP` (R332): the spec gives it no semantics, "Operation: `refuse`". -/
def execStop (_n : Byte) (_s : State) : Result := .refused .stopNotSpecified

/-- `HALT` (R331). -/
def execHalt (s : State) : Result := complete 4 (haltEffect s)

/-- `UNASSIGNED_D3` (R336). -/
def execUnassignedD3 (s : State) : Result := complete 4 s

/-- `UNASSIGNED_DB` (R336). -/
def execUnassignedDb (s : State) : Result := complete 4 s

/-- `UNASSIGNED_DD` (R336). -/
def execUnassignedDd (s : State) : Result := complete 4 s

/-- `UNASSIGNED_E3` (R336). -/
def execUnassignedE3 (s : State) : Result := complete 4 s

/-- `UNASSIGNED_E4` (R336). -/
def execUnassignedE4 (s : State) : Result := complete 4 s

/-- `UNASSIGNED_EB` (R336). -/
def execUnassignedEb (s : State) : Result := complete 4 s

/-- `UNASSIGNED_EC` (R336). -/
def execUnassignedEc (s : State) : Result := complete 4 s

/-- `UNASSIGNED_ED` (R336). -/
def execUnassignedEd (s : State) : Result := complete 4 s

/-- `DI` (R333). -/
def execDi (s : State) : Result := complete 4 (withCpu (fun u => { u with ime := false, eiPending := false }) s)

/-- `UNASSIGNED_F4` (R336). -/
def execUnassignedF4 (s : State) : Result := complete 4 s

/-- `EI` (R334). -/
def execEi (s : State) : Result := complete 4 (enableInterrupts s)

/-- `UNASSIGNED_FC` (R336). -/
def execUnassignedFc (s : State) : Result := complete 4 s

/-- `UNASSIGNED_FD` (R336). -/
def execUnassignedFd (s : State) : Result := complete 4 s

end Sys2Proof.Machine
end

