-- ==== Sys2Proof/Machine/Loop.lean ====
section
/-! DEFINITION. The run loop (spec/60_exceptions.md section 4): fetch, `Step()`, the feeding of the peers,
`CheckInterrupts()`, one iteration; the actions of the host (section 5); and the placing of an instruction's bytes where
the next fetch finds them. Sys2Proof/Machine/Step.lean only calls what stands here. -/

namespace Sys2Proof.Machine

/-! ### Fetch (spec/30_encoding.md R141, R147) -/

/-- `FetchOpcode()`: under the HALT-bug latch PC is not incremented, once. -/
def fetchOpcode (s : State) : Byte × State :=
  let x := memRead s.cpu.pc s
  (x.1, withCpu (fun u => if u.haltBug then { u with haltBug := false } else { u with pc := u.pc + 1#16 }) x.2)

/-- `Fetch8()`. -/
def fetch8 (s : State) : Byte × State :=
  let x := memRead s.cpu.pc s
  (x.1, withCpu (fun u => { u with pc := u.pc + 1#16 }) x.2)

/-- The instruction at PC, and the state after the fetch of all its bytes (R147). -/
def fetchInstr (s : State) : Instr × State :=
  let x := fetchOpcode s
  match operandBytes x.1 with
  | 0 => (decodeOp x.1 0x00#8 0x00#8, x.2)
  | 1 =>
    let y := fetch8 x.2
    (decodeOp x.1 y.1 0x00#8, y.2)
  | _ =>
    let y := fetch8 x.2
    let z := fetch8 y.2
    (decodeOp x.1 y.1 z.1, z.2)

/-! ### `Step()` (R372) -/

/-- What `EI_DELAY = 1` adds after an instruction that was executed with `armed` (R334). -/
def applyArmed (armed : Bool) (i : Instr) (s : State) : State :=
  if armed then
    withCpu (fun u => { u with eiPending := false, ime := if i = .di then u.ime else true }) s
  else s

/-- A meaning's outcome with a change of the next state. -/
def mapNext (f : State → State) (x : Result) : Result :=
  match x with
  | .next s => .next (f s)
  | .fault r => .fault r
  | .refused r => .refused r

/-- Whether an EI of the previous instruction is armed at the start of this one (R334, R372). -/
def eiArmed (s : State) : Bool := s.par.eiDelay && s.cpu.eiPending

/-- The instruction at PC is fetched and executed (R372). -/
def runInstr (s : State) : Result :=
  let x := fetchInstr s
  mapNext (applyArmed (eiArmed s) x.1) (exec x.1 x.2)

/-- `Step()` (R372): one instruction, or one idle of 4 cycles while halted. The cycle count is left in `charged`. -/
def cpuStep (s : State) : Result :=
  let t := { s with charged := 0 }
  if t.cpu.halted then .next (finish 4 t) else runInstr t

/-! ### The peers and the interrupts (R354, R370) -/

/-- PPU, APU and DMA are advanced by the cycles in `charged`, which is used up (R370, R371). -/
def feedPeers (s : State) : State :=
  { dmaAdvance s.charged (apuAdvance s.charged (ppuAdvance s.charged s)) with charged := 0 }

/-- Wake-up (R353): `Halted <- false`. -/
def wake (s : State) : State := withCpu (fun u => { u with halted := false }) s

/-- `CheckInterrupts()` and the feeding of a dispatch's cycles to the peers (R353, R354, R370). -/
def serviceInterrupts (s : State) : State :=
  match firstPending s.irq.pending with
  | none => s
  | some n => if s.cpu.ime then feedPeers (takeInterrupt n (wake s)) else wake s

/-- What follows the CPU's part of an iteration (R370). -/
def afterStep (s : State) : State := serviceInterrupts (feedPeers s)

/-- `Iteration()` (R370). -/
def iteration (s : State) : Result := mapNext afterStep (cpuStep s)

/-! ### The host (R380 to R385) -/

/-- `SetJoypad(j)` (R381). -/
def setJoypad (j : Byte) (s : State) : State :=
  let pressed := joypadLow s.p1 s.port.joy &&& ~~~(joypadLow s.p1 j) &&& 0x0F#8
  let t := if pressed = 0#8 then s else requestInterrupt .joypad s
  { t with port := { t.port with joy := j } }

/-- A change of `runState`. -/
def setRunState (r : RunState) (s : State) : State := { s with port := { s.port with runState := r } }

/-- One action of the host (R380); after `Stop()` the state is final. -/
def hostAction (s : State) (act : HostAction) : State :=
  if s.port.runState = .stopRequested then s
  else match act with
    | .setJoypad j => setJoypad j s
    | .pause => if s.port.runState = .running then setRunState .paused s else s
    | .resume => if s.port.runState = .paused then setRunState .running s else s
    | .stop => setRunState .stopRequested s
    | .takeFrame => { s with ppu := { s.ppu with frameReady := false } }
    | .takeAudio => { s with apu := { s.apu with sampler := { s.apu.sampler with out := [] } } }
    | .takeSerial => s
    | .debugPeek _ => s

/-- What an action returns to the host (R380, R382, R385). -/
inductive HostReply where
  | nothing
  | frame (fb : List (List Rgb))
  | audio (buffers : List (List (Byte × Byte)))
  | serial (bytes : List Byte)
  | byte (v : Byte)
  deriving DecidableEq, Repr

/-- The reply to an action in the state it acts on (R380): a frame only when one is ready. -/
def hostReply (s : State) (act : HostAction) : HostReply :=
  match act with
  | .setJoypad _ => .nothing
  | .pause => .nothing
  | .resume => .nothing
  | .stop => .nothing
  | .takeFrame => if s.ppu.frameReady then .frame s.ppu.fb else .nothing
  | .takeAudio => .audio s.apu.sampler.out
  | .takeSerial => .serial s.port.serialOut
  | .debugPeek a => .byte (debugPeek a s)

/-- The actions of the host that stand before this pass of the loop (R370). -/
def hostTurn (s : State) : State :=
  match s.port.script with
  | [] => s
  | acts :: rest => acts.foldl hostAction { s with port := { s.port with script := rest } }

/-- One pass of `Run()`'s loop (R370): the host's actions, then an iteration if the machine is running. A paused machine
waits for the host; a stopped one is final. -/
def loopPass (s : State) : Result :=
  if s.port.runState = .stopRequested then .next s
  else
    let t := hostTurn s
    match t.port.runState with
    | .running => iteration t
    | .paused => .next t
    | .stopRequested => .next t

/-! ### Placing an instruction where the next fetch reads it -/

/-- Whether a byte can be stored where a CPU read of this address finds it. -/
def placeable (a : Nat) (s : State) : Bool :=
  match regionOf a with
  | .io => false
  | .hole => false
  | .xram => (xramCell s.mbc a).isSome && decide (s.mbc.header.mbcType ≠ .mbc2)
  | _ => true

/-- A byte of the cartridge image. -/
def placeRom (off : Nat) (v : Byte) (s : State) : State :=
  { s with cart := { len := max s.cart.len (off + 1), bytes := Memory.write s.cart.bytes off v } }

/-- The byte v in the cell a CPU read of address a reads. -/
def placeByte (a : Nat) (v : Byte) (s : State) : State :=
  if s.bootOverlay && decide (a ≤ 0x00FF) then { s with bootRom := Memory.write s.bootRom a v }
  else match regionOf a with
    | .romFixed => placeRom a v s
    | .romBanked => placeRom (s.mbc.romBank * 0x4000 + (a - 0x4000)) v s
    | .xram => { s with xram := xramWrite s.mbc s.xram a v }
    | .echo => storeMem (a - 0x2000) v s
    | .ie => { s with irq := { s.irq with enable := v } }
    | .hole => s
    | .io => s
    | _ => storeMem a v s

/-- Bytes at ascending addresses, modulo 2^16. -/
def placeBytes (a : Nat) (bs : List Byte) (s : State) : State :=
  match bs with
  | [] => s
  | b :: rest => placeBytes ((a + 1) % 0x10000) rest (placeByte a b s)

/-- Whether three bytes can be placed at PC. -/
def pcPlaceable (s : State) : Bool :=
  let a := s.cpu.pc.toNat
  placeable a s && placeable ((a + 1) % 0x10000) s && placeable ((a + 2) % 0x10000) s

/-- The state in which nothing keeps the next step from fetching at PC: running, not halted, no HALT-bug latch, no
transfer blocking, no host action first, no PPU mode blocking the fetch. -/
def readyToFetch (s : State) : State :=
  { s with
    cpu := { s.cpu with halted := false, haltBug := false }
    dma := { s.dma with active := false }
    ppu := if ppuBlocks s.cpu.pc s || ppuBlocks (s.cpu.pc + 1#16) s || ppuBlocks (s.cpu.pc + 2#16) s
      then { s.ppu with stat := s.ppu.stat &&& 0xFC#8 } else s.ppu
    port := { s.port with
      runState := .running
      script := match s.port.script with
        | [] => []
        | _ :: rest => [] :: rest } }

/-- The state with these bytes where the next step fetches its instruction. Where PC points at cells that hold no byte
of a program (I/O registers, the unusable hole, absent cartridge RAM), PC becomes 0xC000, work RAM. -/
def placeInstr (bs : List Byte) (s : State) : State :=
  let t := if pcPlaceable s then s else setPc 0xC000#16 s
  placeBytes t.cpu.pc.toNat bs (readyToFetch t)

end Sys2Proof.Machine
end

