-- ==== Sys2Proof/Machine/Reset.lean ====
section
/-! DEFINITION. `Reset()`, the construction of the machine from its arguments (spec/70_reset_and_hazards.md R500). -/

namespace Sys2Proof.Machine

/-- The machine right after construction, or why there is none (R500): parameters, cartridge image, boot ROM if there is
one, `SKIP_BOOT`, and the host's action sequence. A cold reset needs a boot ROM (R520). -/
def construct (par : Params) (cart : Cart) (bootRom : Option Memory) (skipBoot : Bool)
    (script : List (List HostAction)) : Except ConstructError State :=
  match parseHeader cart with
  | .error e => .error e
  | .ok hd =>
    if skipBoot then .ok (State.skipBootWith par cart (bootRom.getD []) hd script)
    else match bootRom with
      | none => .error .noBootRom
      | some rom => .ok (State.coldWith par cart rom hd script)

end Sys2Proof.Machine
end

