-- ==== Sys2Proof/Machine/Step.lean ====
section
/-! DEFINITION. The step of the machine, one pass of the run loop of spec/60_exceptions.md R370, and the placing of one
instruction where it is fetched next. -/

namespace Sys2Proof.Machine

/-- One pass of the run loop (R370). -/
def step (s : State) : Host.Outcome State Fault Refusal := loopPass s

/-- The state in which the next step fetches and runs the instruction whose bits are w, numbered as
spec/opcode_table.json numbers them. -/
def State.withFetchWord (s : State) (nbits w : Nat) : State := placeInstr (tableBytes nbits w) s

end Sys2Proof.Machine
end

