-- ==== Sys2Proof/Safety.lean ====
section
/-! DEFINITION. The terms claims use: the invariant every step keeps, what an instruction of a form does as one predicate,
which bytes of memory a CPU write or the passing of time can change, and the shapes of instructions that frames speak of.
No run of this machine stops but at STOP (R350, R520), so a safe run is one that meets no STOP. -/

namespace Sys2Proof.Machine

/-! ### The invariant -/

/-- F[3:0] are zero (R22), and the EI latch is used only when `EI_DELAY = 1` (R27) and is set only
while IME is 0 (R334), so that an interrupt entry, which needs IME, leaves no latch behind (R357). The last
is the model's inference (log entry 19). -/
structure CpuOk (par : Params) (u : Cpu) : Prop where
  flags : u.f &&& 0x0F#8 = 0x00#8
  latch : u.eiPending = true → par.eiDelay = true
  waiting : u.eiPending = true → u.ime = false

/-- IF holds five bits (R35). -/
structure IrqOk (q : Irq) : Prop where
  request : q.request &&& 0xE0#8 = 0x00#8

/-- `timaAcc` is below the period, so below 1024 (R56, R360), and 0 while the timer is off (R360). -/
structure TimerOk (t : Timer) : Prop where
  below : t.timaAcc < timerPeriod t.tac
  off : bit t.tac 2 = false → t.timaAcc = 0

/-- A transfer in progress has not yet run its length (R106). -/
structure DmaOk (par : Params) (d : Dma) : Prop where
  elapsed : d.active = true → d.elapsed < par.dmaCycles

/-- LY is in 0 to 153 (R40), the scanline counter in 1 to 456, the pictures are 144 rows of 160 (R58). -/
structure PpuOk (p : Ppu) : Prop where
  line : p.ly.toNat ≤ 153
  budgetLow : 1 ≤ p.budget
  budgetHigh : p.budget ≤ 456
  rows : p.fb.length = 144
  width : ∀ row ∈ p.fb, row.length = 160
  codeRows : p.code.length = 144
  codeWidth : ∀ row ∈ p.code, row.length = 160

/-- The ranges R450 gives a pulse channel. -/
structure PulseOk (c : Pulse) : Prop where
  duty : c.duty ≤ 7
  length : c.length ≤ 64
  env : c.env ≤ 7
  vol : c.vol ≤ 15

/-- The ranges R450 gives the sweep unit. -/
structure SweepOk (w : Sweep) : Prop where
  timer : w.timer ≤ 8
  shadow : w.shadow ≤ 2047

/-- The ranges R450 gives the wave channel. -/
structure WaveOk (c : Wave) : Prop where
  pos : c.pos ≤ 31
  length : c.length ≤ 256

/-- The ranges R450 gives the noise channel. -/
structure NoiseOk (c : Noise) : Prop where
  length : c.length ≤ 64
  env : c.env ≤ 7
  vol : c.vol ≤ 15

/-- The ranges R450 gives the sound unit; NR52 stores bit 7 alone (R44). -/
structure ApuOk (par : Params) (a : Apu) : Prop where
  pulse1 : PulseOk a.pulse1
  pulse2 : PulseOk a.pulse2
  sweep : SweepOk a.sweep
  wave : WaveOk a.wave
  noise : NoiseOk a.noise
  nr52 : a.nr52 &&& 0x7F#8 = 0x00#8
  counter : a.seq.counter ≤ 8191
  step : a.seq.step ≤ 7
  acc : a.sampler.acc < par.samplePeriod
  buf : a.sampler.buf.length < par.audioBufSamples

/-- The bank indices are reduced modulo the bank counts (R30); a ROM_ONLY cartridge keeps bank 1 in the window and its RAM
disabled (R89, R93); RAM-banking mode is MBC1's alone (R30, R104). -/
structure MbcOk (m : Mbc) : Prop where
  banks : 2 ≤ m.header.romBanks
  rom : m.romBank < m.header.romBanks
  ram : m.ramBank < max m.header.ramBanks 1
  romOnly : m.header.mbcType = .romOnly → m.romBank = 1 ∧ m.ramEnabled = false
  mode : m.bankMode = .ramBanking → m.header.mbcType = .mbc1

/-- Every part of the state is within its ranges. -/
structure Legal (s : State) : Prop where
  par : s.par.wellFormed = true
  cpu : CpuOk s.par s.cpu
  irq : IrqOk s.irq
  timer : TimerOk s.timer
  dma : DmaOk s.par s.dma
  ppu : PpuOk s.ppu
  apu : ApuOk s.par s.apu
  mbc : MbcOk s.mbc
  /-- P1 stores the two select lines alone (R31). -/
  p1 : s.p1 &&& 0xCF#8 = 0x00#8
  /-- The images are in canonical form. -/
  mem : Memory.wf s.mem = true
  xram : Memory.wf s.xram = true

/-- The invariant of the machine: the state is legal, and between steps nothing is charged (R371). -/
structure Inv (s : State) : Prop where
  legal : Legal s
  charged : s.charged = 0

/-! ### What an instruction of a form does -/

/-- The bytes `bs` are the instruction i, and i executed in any state answers the next state: the effect `eff` of the
instruction's operation, of c cycles. -/
def Runs (bs : List Byte) (i : Instr) (c : Nat) (eff : State → State) : Prop :=
  decode bs = .ok (i, []) ∧ ∀ s, exec i s = .next (finish c (eff s))

/-- As `Runs`, for a conditional instruction: c cycles and the effect when the condition holds, else c' cycles and no
effect (R310). -/
def RunsIf (bs : List Byte) (i : Instr) (cc : Cond) (c c' : Nat) (eff : State → State) : Prop :=
  decode bs = .ok (i, []) ∧ ∀ s, exec i s = .next (if condHolds cc s.cpu.f then finish c (eff s) else finish c' s)

/-- A number as an opcode byte. -/
def opcode (n : Nat) : Byte := BitVec.ofNat 8 n

/-- The `R8` selector of a register (R144). -/
def r8Num : Reg8 → Nat
  | .b => 0 | .c => 1 | .d => 2 | .e => 3 | .h => 4 | .l => 5 | .a => 7

/-- The `R16` selector of a pair (R144). -/
def r16Num : Reg16 → Nat
  | .bc => 0 | .de => 1 | .hl => 2 | .sp => 3

/-- The `R16S` selector of a pair (R144). -/
def stackNum : StackPair → Nat
  | .bc => 0 | .de => 1 | .hl => 2 | .af => 3

/-- The `CC` selector of a condition (R144). -/
def ccNum : Cond → Nat
  | .nz => 0 | .z => 1 | .nc => 2 | .c => 3

/-- The `ALU` selector of an operation (R144). -/
def aluNum : AluOp → Nat
  | .add => 0 | .adc => 1 | .sub => 2 | .sbc => 3 | .and => 4 | .xor => 5 | .or => 6 | .cp => 7

/-- The `ROT` selector of an operation (R144). -/
def rotNum : RotOp → Nat
  | .rlc => 0 | .rrc => 1 | .rl => 2 | .rr => 3 | .sla => 4 | .sra => 5 | .swap => 6 | .srl => 7

/-- The two-digit number n in binary-coded decimal: tens in the high nibble, units in the low. -/
def bcd (n : Nat) : Byte := BitVec.ofNat 8 (16 * (n / 10) + n % 10)

/-! ### Which bytes change -/

/-- The bytes that the passing of cycles inside an instruction can change: DIV, TIMA and IF (R360, R361). -/
def timeByte (b : Nat) : Bool := b == 0xFF04 || b == 0xFF05 || b == 0xFF0F

/-- Whether the addresses a and b are one cell of video RAM, work RAM with its echo, OAM, HRAM or IE (R95). -/
def sameCell (a b : Nat) : Bool :=
  (if regionOf a = .echo then a - 0x2000 else a) == (if regionOf b = .echo then b - 0x2000 else b)

/-- Whether the write action of the I/O register r at address a may change byte b: its own byte, and LY and STAT for LCDC,
the OAM for 0xFF46. -/
def ioReaches (r : IoReg) (a b : Nat) : Bool :=
  match r with
  | .lcdc => b == a || b == 0xFF41 || b == 0xFF44
  | .dma => b == a || regionOf b == .oam
  | _ => b == a

/-- The bytes (as `load` reads them) that a CPU write at address a can change: for a controller address the two banked
windows; for an I/O register itself, with LY and STAT for LCDC (R37) and OAM for DMA (R105); in cartridge RAM the
addresses of the same cell (R93); elsewhere the cell (R95). -/
def writeReaches (m : Mbc) (a b : Nat) : Bool :=
  match regionOf a with
  | .romFixed => regionOf b == .romBanked || regionOf b == .xram
  | .romBanked => regionOf b == .romBanked || regionOf b == .xram
  | .xram => regionOf b == .xram && (xramCell m a).isSome && xramCell m a == xramCell m b
  | .hole => false
  | .io => ioReaches (ioRegOf a) a b
  | _ => sameCell a b

/-- t is s but for the CPU registers and what the passing of cycles changes: the timer and the timer's request in IF. -/
structure SameButCpu (s t : State) : Prop where
  rest : t = { s with cpu := t.cpu, timer := t.timer, irq := t.irq, charged := t.charged }
  enable : t.irq.enable = s.irq.enable
  /-- No request bit but the timer's changes, and that one is only set. -/
  requests : t.irq.request = s.irq.request ∨ t.irq.request = s.irq.request ||| 0x04#8
  tma : t.timer.tma = s.timer.tma
  tac : t.timer.tac = s.timer.tac

/-! ### Shapes of instructions -/

/-- The loads, the stack instructions, the jumps, calls and returns, and the NOPs: the instructions whose rules change no
flag (POP AF, which loads F, apart). -/
inductive KeepsFlags : Instr → Prop
  | ldRegReg (rd rs) : KeepsFlags (ldRegReg rd rs)
  | ldRegImm (r n) : KeepsFlags (ldRegImm r n)
  | ldRegHl (r) : KeepsFlags (ldRegHl r)
  | ldHlReg (r) : KeepsFlags (ldHlReg r)
  | ldHlImm (n) : KeepsFlags (.ld_mHl_n n)
  | ldABc : KeepsFlags .ld_a_mBc
  | ldADe : KeepsFlags .ld_a_mDe
  | ldBcA : KeepsFlags .ld_mBc_a
  | ldDeA : KeepsFlags .ld_mDe_a
  | ldANn (nn) : KeepsFlags (.ld_a_mNn nn)
  | ldNnA (nn) : KeepsFlags (.ld_mNn_a nn)
  | ldhAN (n) : KeepsFlags (.ldh_a_mN n)
  | ldhNA (n) : KeepsFlags (.ldh_mN_a n)
  | ldhAC : KeepsFlags .ldh_a_mC
  | ldhCA : KeepsFlags .ldh_mC_a
  | ldHliA : KeepsFlags .ld_mHli_a
  | ldAHli : KeepsFlags .ld_a_mHli
  | ldHldA : KeepsFlags .ld_mHld_a
  | ldAHld : KeepsFlags .ld_a_mHld
  | ldPairImm (p nn) : KeepsFlags (ldPairImm p nn)
  | ldNnSp (nn) : KeepsFlags (.ld_mNn_sp nn)
  | ldSpHl : KeepsFlags .ld_sp_hl
  | push (p) : KeepsFlags (pushPair p)
  | popBc : KeepsFlags .pop_bc
  | popDe : KeepsFlags .pop_de
  | popHl : KeepsFlags .pop_hl
  | incPair (p) : KeepsFlags (incPair p)
  | decPair (p) : KeepsFlags (decPair p)
  | resReg (b r) : KeepsFlags (resReg b r)
  | resHl (b) : KeepsFlags (resHl b)
  | setReg (b r) : KeepsFlags (setReg b r)
  | setHl (b) : KeepsFlags (setHl b)
  | jp (nn) : KeepsFlags (.jp_nn nn)
  | jr (e) : KeepsFlags (.jr_e e)
  | jpCond (cc nn) : KeepsFlags (jpCond cc nn)
  | jrCond (cc e) : KeepsFlags (jrCond cc e)
  | jpHl : KeepsFlags .jp_hl
  | call (nn) : KeepsFlags (.call_nn nn)
  | callCond (cc nn) : KeepsFlags (callCond cc nn)
  | ret : KeepsFlags .ret
  | retCond (cc) : KeepsFlags (retCond cc)
  | reti : KeepsFlags .reti
  | rst (t) : KeepsFlags (rstTo t)
  | nop : KeepsFlags .nop
  | halt : KeepsFlags .halt
  | di : KeepsFlags .di
  | ei : KeepsFlags .ei

/-- The instructions that store nothing: every access they make is a read. -/
inductive StoresNothing : Instr → Prop
  | ldRegReg (rd rs) : StoresNothing (ldRegReg rd rs)
  | ldRegImm (r n) : StoresNothing (ldRegImm r n)
  | ldRegHl (r) : StoresNothing (ldRegHl r)
  | ldABc : StoresNothing .ld_a_mBc
  | ldADe : StoresNothing .ld_a_mDe
  | ldANn (nn) : StoresNothing (.ld_a_mNn nn)
  | ldhAN (n) : StoresNothing (.ldh_a_mN n)
  | ldhAC : StoresNothing .ldh_a_mC
  | ldAHli : StoresNothing .ld_a_mHli
  | ldAHld : StoresNothing .ld_a_mHld
  | ldPairImm (p nn) : StoresNothing (ldPairImm p nn)
  | ldSpHl : StoresNothing .ld_sp_hl
  | ldHlSp (e) : StoresNothing (.ld_hl_spE e)
  | pop (p) : StoresNothing (popPair p)
  | aluReg (op r) : StoresNothing (aluReg op r)
  | aluHl (op) : StoresNothing (aluHl op)
  | aluImm (op n) : StoresNothing (aluImm op n)
  | incReg (r) : StoresNothing (incReg r)
  | decReg (r) : StoresNothing (decReg r)
  | daa : StoresNothing .daa
  | cpl : StoresNothing .cpl
  | scf : StoresNothing .scf
  | ccf : StoresNothing .ccf
  | addHl (p) : StoresNothing (addHlPair p)
  | incPair (p) : StoresNothing (incPair p)
  | decPair (p) : StoresNothing (decPair p)
  | addSp (e) : StoresNothing (.add_sp_e e)
  | rlca : StoresNothing .rlca
  | rrca : StoresNothing .rrca
  | rla : StoresNothing .rla
  | rra : StoresNothing .rra
  | rotReg (op r) : StoresNothing (rotReg op r)
  | bitReg (b r) : StoresNothing (bitReg b r)
  | bitHl (b) : StoresNothing (bitHl b)
  | resReg (b r) : StoresNothing (resReg b r)
  | setReg (b r) : StoresNothing (setReg b r)
  | jp (nn) : StoresNothing (.jp_nn nn)
  | jr (e) : StoresNothing (.jr_e e)
  | jpCond (cc nn) : StoresNothing (jpCond cc nn)
  | jrCond (cc e) : StoresNothing (jrCond cc e)
  | jpHl : StoresNothing .jp_hl
  | ret : StoresNothing .ret
  | retCond (cc) : StoresNothing (retCond cc)
  | reti : StoresNothing .reti
  | nop : StoresNothing .nop
  | halt : StoresNothing .halt
  | di : StoresNothing .di
  | ei : StoresNothing .ei
  | unassigned_d3 : StoresNothing .unassigned_d3
  | unassigned_db : StoresNothing .unassigned_db
  | unassigned_dd : StoresNothing .unassigned_dd
  | unassigned_e3 : StoresNothing .unassigned_e3
  | unassigned_e4 : StoresNothing .unassigned_e4
  | unassigned_eb : StoresNothing .unassigned_eb
  | unassigned_ec : StoresNothing .unassigned_ec
  | unassigned_ed : StoresNothing .unassigned_ed
  | unassigned_f4 : StoresNothing .unassigned_f4
  | unassigned_fc : StoresNothing .unassigned_fc
  | unassigned_fd : StoresNothing .unassigned_fd

/-- The instructions that store one byte, each with the address it stores to, as its meaning computes it. -/
inductive StoresAt (s : State) : Instr → Word → Prop
  | ldHlReg (r) : StoresAt s (ldHlReg r) s.cpu.hl
  | ldHlImm (n) : StoresAt s (.ld_mHl_n n) s.cpu.hl
  | ldBcA : StoresAt s .ld_mBc_a s.cpu.bc
  | ldDeA : StoresAt s .ld_mDe_a s.cpu.de
  | ldNnA (nn) : StoresAt s (.ld_mNn_a nn) nn
  | ldhNA (n) : StoresAt s (.ldh_mN_a n) (highPage n)
  | ldhCA : StoresAt s .ldh_mC_a (highPage s.cpu.c)
  | ldHliA : StoresAt s .ld_mHli_a s.cpu.hl
  | ldHldA : StoresAt s .ld_mHld_a s.cpu.hl
  | incHl : StoresAt s .inc_mHl s.cpu.hl
  | decHl : StoresAt s .dec_mHl s.cpu.hl
  | rotHl (op) : StoresAt s (rotHl op) s.cpu.hl
  | resHl (b) : StoresAt s (resHl b) s.cpu.hl
  | setHl (b) : StoresAt s (setHl b) s.cpu.hl

/-- The byte registers a pair is made of; SP is none of them. -/
def pairHalves : Reg16 → List Reg8
  | .bc => [.b, .c] | .de => [.d, .e] | .hl => [.h, .l] | .sp => []

/-- The byte registers a stack pair is made of, F apart. -/
def stackHalves : StackPair → List Reg8
  | .bc => [.b, .c] | .de => [.d, .e] | .hl => [.h, .l] | .af => [.a]

/-- The destination registers of an instruction among A, B, C, D, E, H, L, with the HL that `(HL+)` and `(HL-)` step. -/
inductive Destination : Instr → Reg8 → Prop
  | ldRegReg (rd rs) : Destination (ldRegReg rd rs) rd
  | ldRegImm (r n) : Destination (ldRegImm r n) r
  | ldRegHl (r) : Destination (ldRegHl r) r
  | ldABc : Destination .ld_a_mBc .a
  | ldADe : Destination .ld_a_mDe .a
  | ldANn (nn) : Destination (.ld_a_mNn nn) .a
  | ldhAN (n) : Destination (.ldh_a_mN n) .a
  | ldhAC : Destination .ldh_a_mC .a
  | ldAHli : Destination .ld_a_mHli .a
  | ldAHld : Destination .ld_a_mHld .a
  | stepHl (i r) (hi : i ∈ [Instr.ld_a_mHli, .ld_a_mHld, .ld_mHli_a, .ld_mHld_a]) (hr : r ∈ pairHalves .hl) : Destination i r
  | ldPairImm (p nn r) (hr : r ∈ pairHalves p) : Destination (ldPairImm p nn) r
  | ldHlSp (e r) (hr : r ∈ pairHalves .hl) : Destination (.ld_hl_spE e) r
  | pop (p r) (hr : r ∈ stackHalves p) : Destination (popPair p) r
  | aluReg (op r) (h : op ≠ .cp) : Destination (aluReg op r) .a
  | aluHl (op) (h : op ≠ .cp) : Destination (aluHl op) .a
  | aluImm (op n) (h : op ≠ .cp) : Destination (aluImm op n) .a
  | incReg (r) : Destination (incReg r) r
  | decReg (r) : Destination (decReg r) r
  | daa : Destination .daa .a
  | cpl : Destination .cpl .a
  | addHl (p r) (hr : r ∈ pairHalves .hl) : Destination (addHlPair p) r
  | incPair (p r) (hr : r ∈ pairHalves p) : Destination (incPair p) r
  | decPair (p r) (hr : r ∈ pairHalves p) : Destination (decPair p) r
  | rotA (i) (hi : i ∈ [Instr.rlca, .rrca, .rla, .rra]) : Destination i .a
  | rotReg (op r) : Destination (rotReg op r) r
  | resReg (b r) : Destination (resReg b r) r
  | setReg (b r) : Destination (setReg b r) r

/-- The instructions that write SP, themselves or by a push or a pop. -/
inductive ChangesSp : Instr → Prop
  | ldImm (nn) : ChangesSp (.ld_sp_nn nn)
  | ldHl : ChangesSp .ld_sp_hl
  | inc : ChangesSp .inc_sp
  | dec : ChangesSp .dec_sp
  | add (e) : ChangesSp (.add_sp_e e)
  | push (p) : ChangesSp (pushPair p)
  | pop (p) : ChangesSp (popPair p)
  | call (nn) : ChangesSp (.call_nn nn)
  | callCond (cc nn) : ChangesSp (callCond cc nn)
  | rst (t) : ChangesSp (rstTo t)
  | ret : ChangesSp .ret
  | retCond (cc) : ChangesSp (retCond cc)
  | reti : ChangesSp .reti

/-- The jumps, calls and returns: the instructions that replace PC (R23). -/
inductive ChangesPc : Instr → Prop
  | jp (nn) : ChangesPc (.jp_nn nn)
  | jr (e) : ChangesPc (.jr_e e)
  | jpCond (cc nn) : ChangesPc (jpCond cc nn)
  | jrCond (cc e) : ChangesPc (jrCond cc e)
  | jpHl : ChangesPc .jp_hl
  | call (nn) : ChangesPc (.call_nn nn)
  | callCond (cc nn) : ChangesPc (callCond cc nn)
  | rst (t) : ChangesPc (rstTo t)
  | ret : ChangesPc .ret
  | retCond (cc) : ChangesPc (retCond cc)
  | reti : ChangesPc .reti

/-- The instructions that store a word on the stack when they run their effect, high byte at SP-1, low byte at SP-2. -/
inductive Pushes : Instr → Prop
  | push (p) : Pushes (pushPair p)
  | call (nn) : Pushes (.call_nn nn)
  | callCond (cc nn) : Pushes (callCond cc nn)
  | rst (t) : Pushes (rstTo t)

end Sys2Proof.Machine
end

