-- ==== Sys2Proof/Certificates/Slice0/Obligations.lean ====
section
/-! DEFINITION. The statements for the provers. Each formalises rules of spec/, or is derived from them, as
OBLIGATIONS.json says. -/

open Sys2Proof Sys2Proof.Machine

/-! ### Encoding -/

/-- Decoding the bytes of any instruction gives the instruction back and leaves what follows alone: every operand at
every value the encoding admits (spec/30_encoding.md sections 1 to 3). -/
def Obligations.DecodeEncodeAgree : Prop :=
  ∀ (i : Instr) (rest : List Byte), i.wellFormed = true → decode (encode i ++ rest) = .ok (i, rest)

/-- Bytes that decode are the encoding of what they decode to: no two byte sequences are one instruction
(spec/30_encoding.md sections 1 to 3). -/
def Obligations.EncodeDecodeAgree : Prop :=
  ∀ (bs : List Byte) (i : Instr) (rest : List Byte), decode bs = .ok (i, rest) → encode i ++ rest = bs

/-- Every byte value begins an instruction, of one to three bytes, of a length that is a function of the first byte
alone and is 2 after 0xCB (spec/30_encoding.md section 1). -/
def Obligations.EveryByteBeginsAnInstruction : Prop :=
  ∀ b0 : Byte, ∃ n : Nat, 1 ≤ n ∧ n ≤ 3 ∧ (b0 = 0xCB#8 → n = 2) ∧
    ∀ (b1 b2 : Byte) (rest : List Byte), ∃ i : Instr,
      i.wellFormed = true ∧ decode (b0 :: b1 :: b2 :: rest) = .ok (i, (b0 :: b1 :: b2 :: rest).drop n)

/-- Words written out from the grids of spec/30_encoding.md decode to the instructions they stand for. -/
def Obligations.DecodesSpecWords : Prop :=
  decode [0x41#8] = .ok (.ld_b_c, []) ∧ decode [0x21#8, 0x4D#8, 0x01#8] = .ok (.ld_hl_nn 0x014D#16, []) ∧
  decode [0xC5#8] = .ok (.push_bc, []) ∧ decode [0x86#8] = .ok (.add_a_mHl, []) ∧
  decode [0xE6#8, 0x38#8] = .ok (.and_n 0x38#8, []) ∧ decode [0x27#8] = .ok (.daa, []) ∧
  decode [0x09#8] = .ok (.add_hl_bc, []) ∧ decode [0xE8#8, 0x02#8] = .ok (.add_sp_e 0x02#8, []) ∧
  decode [0x07#8] = .ok (.rlca, []) ∧ decode [0xCB#8, 0x37#8] = .ok (.swap_a, []) ∧
  decode [0xCB#8, 0x7F#8] = .ok (.bit_7_a, []) ∧ decode [0x20#8, 0xFB#8] = .ok (.jr_nz_e 0xFB#8, []) ∧
  decode [0xC3#8, 0x50#8, 0x01#8] = .ok (.jp_nn 0x0150#16, []) ∧ decode [0xD9#8] = .ok (.reti, []) ∧
  decode [0x76#8] = .ok (.halt, []) ∧ decode [0xDD#8] = .ok (.unassigned_dd, [])

/-! ### Steps and outcomes -/

/-- A step is one pass of the run loop (R370). Let h be the state after the first list of the host's actions still to come, which
is then dropped (R380; with none to come, h is s). A stopped machine is final, and one that is not running after the actions
waits in h. In a running one whose CPU is halted, 4 cycles pass (R372), then the peers and the interrupt check. Otherwise a
step runs the decoded instruction: let the bytes the CPU reads from PC on decode to i (each read is charged before it takes
effect; under the HALT-bug latch PC stays for one fetch, so the first operand byte is the opcode byte again). Then the step is
`exec i`, with PC past the instruction and the fetches charged, then what EI_DELAY adds, the peers (`PeersAreFed`) and the
interrupt check (`InterruptDispatch`). That the actions to come are a list in the state is the model's choice (log entry 5),
that a machine with no more to do answers its own state the model's inference (log entry 11). -/
def Obligations.StepRunsDecodedInstruction : Prop :=
  ∀ s : State,
    let h : State :=
      (s.port.script.headD []).foldl hostAction { s with port := { s.port with script := s.port.script.tail } }
    let s0 : State := { h with charged := 0 }
    (s.port.script = [] → h = s) ∧
    (s.port.runState = .stopRequested → step s = .next s) ∧
    (s.port.runState ≠ .stopRequested → h.port.runState ≠ .running → step s = .next h) ∧
    (s.port.runState ≠ .stopRequested → h.port.runState = .running → h.cpu.halted = true →
      step s = .next (serviceInterrupts (feedPeers { timerAdvance 4 s0 with charged := 4 }))) ∧
    ∀ (i : Instr) (rest : List Byte),
      s.port.runState ≠ .stopRequested → h.port.runState = .running → h.cpu.halted = false → i.wellFormed = true →
      let d : Word := if h.cpu.haltBug then 0#16 else 1#16
      decode [cpuRead h.cpu.pc (busTick s0), cpuRead (h.cpu.pc + d) (busTick (busTick s0)),
        cpuRead (h.cpu.pc + d + 1#16) (busTick (busTick (busTick s0)))] = .ok (i, rest) →
      let n := 3 - rest.length
      let t := iterate busTick n s0
      step s = mapNext (fun u => serviceInterrupts (feedPeers (applyArmed (eiArmed h) i u)))
        (exec i { t with cpu := { h.cpu with pc := h.cpu.pc + d + BitVec.ofNat 16 (n - 1), haltBug := false } })

/-- Every instruction but STOP completes in every state, and a step never ends but in a next state or at STOP
(spec/60_exceptions.md section 1: no trap, fault or abort). -/
def Obligations.OnlyStopStops : Prop :=
  (∀ (i : Instr) (s : State), (∀ n, i ≠ .stop n) → ∃ t, exec i s = .next t) ∧
  ∀ s : State, (∃ t, step s = .next t) ∨ step s = .refused .stopNotSpecified

/-- STOP, 0x10 with its byte, is refused in every state (R332). -/
def Obligations.StopIsRefused : Prop :=
  ∀ (n : Byte) (s : State), decode [0x10#8, n] = .ok (.stop n, []) ∧ exec (.stop n) s = .refused .stopNotSpecified

/-! ### Results: encoding, cycles and the whole next state of every instruction -/

/-- LD r,r' (R170), LD r,n (R171), LD rr,nn (R200), LD SP,HL (R202), PUSH (R206), POP (R207): a push writes the high byte at
SP-1, then the low byte at SP-2; a pop reads the low byte at SP, then the high byte at SP+1; POP AF clears bits 3 to 0 of F. -/
def Obligations.LoadsOfRegistersAndStack : Prop :=
  ((∀ rd rs : Reg8, Runs [opcode (0x40 + 8 * r8Num rd + r8Num rs)] (ldRegReg rd rs) 4
     fun s => { s with cpu := s.cpu.set8 rd (s.cpu.get8 rs) }) ∧
   (∀ (rd : Reg8) (n : Byte), Runs [opcode (0x06 + 8 * r8Num rd), n] (ldRegImm rd n) 8
     fun s => { s with cpu := s.cpu.set8 rd n }) ∧
   (∀ (p : Reg16) (lo hi : Byte), Runs [opcode (0x01 + 0x10 * r16Num p), lo, hi] (ldPairImm p (cat hi lo)) 12
     fun s => { s with cpu := s.cpu.set16 p (cat hi lo) }) ∧
   Runs [0xF9#8] .ld_sp_hl 8 fun s => { s with cpu := { s.cpu with sp := s.cpu.hl } }) ∧
  ((∀ p : StackPair, Runs [opcode (0xC5 + 0x10 * stackNum p)] (pushPair p) 16
     fun s =>
       let s1 := memWrite (s.cpu.sp - 1#16) (hiByte (s.cpu.getStack p)) { s with cpu := { s.cpu with sp := s.cpu.sp - 1#16 } }
       memWrite (s.cpu.sp - 2#16) (loByte (s.cpu.getStack p)) { s1 with cpu := { s.cpu with sp := s.cpu.sp - 2#16 } }) ∧
   (∀ p : StackPair, Runs [opcode (0xC1 + 0x10 * stackNum p)] (popPair p) 12
     fun s =>
       let lo := memRead s.cpu.sp s
       let hi := memRead (s.cpu.sp + 1#16) { lo.2 with cpu := { s.cpu with sp := s.cpu.sp + 1#16 } }
       { hi.2 with cpu := match p with
           | .bc => { s.cpu with sp := s.cpu.sp + 2#16, b := hi.1, c := lo.1 }
           | .de => { s.cpu with sp := s.cpu.sp + 2#16, d := hi.1, e := lo.1 }
           | .hl => { s.cpu with sp := s.cpu.sp + 2#16, h := hi.1, l := lo.1 }
           | .af => { s.cpu with sp := s.cpu.sp + 2#16, a := hi.1, f := lo.1 &&& 0xF0#8 } }))

/-- LD r,(HL) (R172), LD A,(BC) (R175), LD A,(DE) (R176), LD A,(nn) (R179), LDH A,(n) (R181), LDH A,(C) (R183),
LD A,(HL+) (R186), LD A,(HL-) (R188). -/
def Obligations.LoadsFromMemory : Prop :=
  (∀ rd : Reg8, Runs [opcode (0x46 + 8 * r8Num rd)] (ldRegHl rd) 8
    fun s => let x := memRead s.cpu.hl s; { x.2 with cpu := s.cpu.set8 rd x.1 }) ∧
  (Runs [0x0A#8] .ld_a_mBc 8 fun s => let x := memRead s.cpu.bc s; { x.2 with cpu := { s.cpu with a := x.1 } }) ∧
  (Runs [0x1A#8] .ld_a_mDe 8 fun s => let x := memRead s.cpu.de s; { x.2 with cpu := { s.cpu with a := x.1 } }) ∧
  (∀ lo hi : Byte, Runs [0xFA#8, lo, hi] (.ld_a_mNn (cat hi lo)) 16
    fun s => let x := memRead (cat hi lo) s; { x.2 with cpu := { s.cpu with a := x.1 } }) ∧
  (∀ n : Byte, Runs [0xF0#8, n] (.ldh_a_mN n) 12
    fun s => let x := memRead (0xFF00#16 + n.zeroExtend 16) s; { x.2 with cpu := { s.cpu with a := x.1 } }) ∧
  (Runs [0xF2#8] .ldh_a_mC 8
    fun s => let x := memRead (0xFF00#16 + s.cpu.c.zeroExtend 16) s; { x.2 with cpu := { s.cpu with a := x.1 } }) ∧
  (Runs [0x2A#8] .ld_a_mHli 8
    fun s => let x := memRead s.cpu.hl s; { x.2 with cpu := { s.cpu with a := x.1 }.setHl (s.cpu.hl + 1#16) }) ∧
  (Runs [0x3A#8] .ld_a_mHld 8
    fun s => let x := memRead s.cpu.hl s; { x.2 with cpu := { s.cpu with a := x.1 }.setHl (s.cpu.hl - 1#16) })

/-- LD (HL),r (R173), LD (HL),n (R174), LD (BC),A (R177), LD (DE),A (R178), LD (nn),A (R180), LDH (n),A (R182),
LDH (C),A (R184), LD (HL+),A (R185), LD (HL-),A (R187), LD (nn),SP (R201). -/
def Obligations.StoresToMemory : Prop :=
  (∀ rs : Reg8, Runs [opcode (0x70 + r8Num rs)] (ldHlReg rs) 8 fun s => memWrite s.cpu.hl (s.cpu.get8 rs) s) ∧
  (∀ n : Byte, Runs [0x36#8, n] (.ld_mHl_n n) 12 fun s => memWrite s.cpu.hl n s) ∧
  (Runs [0x02#8] .ld_mBc_a 8 fun s => memWrite s.cpu.bc s.cpu.a s) ∧
  (Runs [0x12#8] .ld_mDe_a 8 fun s => memWrite s.cpu.de s.cpu.a s) ∧
  (∀ lo hi : Byte, Runs [0xEA#8, lo, hi] (.ld_mNn_a (cat hi lo)) 16 fun s => memWrite (cat hi lo) s.cpu.a s) ∧
  (∀ n : Byte, Runs [0xE0#8, n] (.ldh_mN_a n) 12 fun s => memWrite (0xFF00#16 + n.zeroExtend 16) s.cpu.a s) ∧
  (Runs [0xE2#8] .ldh_mC_a 8 fun s => memWrite (0xFF00#16 + s.cpu.c.zeroExtend 16) s.cpu.a s) ∧
  (Runs [0x22#8] .ld_mHli_a 8
    fun s => { memWrite s.cpu.hl s.cpu.a s with cpu := s.cpu.setHl (s.cpu.hl + 1#16) }) ∧
  (Runs [0x32#8] .ld_mHld_a 8
    fun s => { memWrite s.cpu.hl s.cpu.a s with cpu := s.cpu.setHl (s.cpu.hl - 1#16) }) ∧
  (∀ lo hi : Byte, Runs [0x08#8, lo, hi] (.ld_mNn_sp (cat hi lo)) 20
    fun s => memWrite (cat hi lo + 1#16) (hiByte s.cpu.sp) (memWrite (cat hi lo) (loByte s.cpu.sp) s))

/-- The register forms of ADD, ADC, SUB, SBC, AND, XOR, OR, CP (R220, R223, R226, R229, R232, R235, R238, R241). -/
def Obligations.AluRegisterForms : Prop :=
  (∀ r : Reg8, Runs [opcode (0x80 + r8Num r)] (aluReg .add r) 4 fun s =>
    let x := add8 s.cpu.a (s.cpu.get8 r) false; { s with cpu := { s.cpu with a := x.1, f := x.2 } }) ∧
  (∀ r : Reg8, Runs [opcode (0x88 + r8Num r)] (aluReg .adc r) 4 fun s =>
    let x := add8 s.cpu.a (s.cpu.get8 r) (flagC s.cpu.f); { s with cpu := { s.cpu with a := x.1, f := x.2 } }) ∧
  (∀ r : Reg8, Runs [opcode (0x90 + r8Num r)] (aluReg .sub r) 4 fun s =>
    let x := sub8 s.cpu.a (s.cpu.get8 r) false; { s with cpu := { s.cpu with a := x.1, f := x.2 } }) ∧
  (∀ r : Reg8, Runs [opcode (0x98 + r8Num r)] (aluReg .sbc r) 4 fun s =>
    let x := sub8 s.cpu.a (s.cpu.get8 r) (flagC s.cpu.f); { s with cpu := { s.cpu with a := x.1, f := x.2 } }) ∧
  (∀ r : Reg8, Runs [opcode (0xA0 + r8Num r)] (aluReg .and r) 4 fun s =>
    let x := and8 s.cpu.a (s.cpu.get8 r); { s with cpu := { s.cpu with a := x.1, f := x.2 } }) ∧
  (∀ r : Reg8, Runs [opcode (0xA8 + r8Num r)] (aluReg .xor r) 4 fun s =>
    let x := xor8 s.cpu.a (s.cpu.get8 r); { s with cpu := { s.cpu with a := x.1, f := x.2 } }) ∧
  (∀ r : Reg8, Runs [opcode (0xB0 + r8Num r)] (aluReg .or r) 4 fun s =>
    let x := or8 s.cpu.a (s.cpu.get8 r); { s with cpu := { s.cpu with a := x.1, f := x.2 } }) ∧
  (∀ r : Reg8, Runs [opcode (0xB8 + r8Num r)] (aluReg .cp r) 4 fun s =>
    { s with cpu := { s.cpu with f := (sub8 s.cpu.a (s.cpu.get8 r) false).2 } })

/-- The memory forms of ADD, ADC, SUB, SBC, AND, XOR, OR, CP (R221, R224, R227, R230, R233, R236, R239, R242). -/
def Obligations.AluMemoryForms : Prop :=
  (Runs [0x86#8] (aluHl .add) 8 fun s =>
    let v := memRead s.cpu.hl s; let x := add8 s.cpu.a v.1 false
    { v.2 with cpu := { s.cpu with a := x.1, f := x.2 } }) ∧
  (Runs [0x8E#8] (aluHl .adc) 8 fun s =>
    let v := memRead s.cpu.hl s; let x := add8 s.cpu.a v.1 (flagC s.cpu.f)
    { v.2 with cpu := { s.cpu with a := x.1, f := x.2 } }) ∧
  (Runs [0x96#8] (aluHl .sub) 8 fun s =>
    let v := memRead s.cpu.hl s; let x := sub8 s.cpu.a v.1 false
    { v.2 with cpu := { s.cpu with a := x.1, f := x.2 } }) ∧
  (Runs [0x9E#8] (aluHl .sbc) 8 fun s =>
    let v := memRead s.cpu.hl s; let x := sub8 s.cpu.a v.1 (flagC s.cpu.f)
    { v.2 with cpu := { s.cpu with a := x.1, f := x.2 } }) ∧
  (Runs [0xA6#8] (aluHl .and) 8 fun s =>
    let v := memRead s.cpu.hl s; let x := and8 s.cpu.a v.1; { v.2 with cpu := { s.cpu with a := x.1, f := x.2 } }) ∧
  (Runs [0xAE#8] (aluHl .xor) 8 fun s =>
    let v := memRead s.cpu.hl s; let x := xor8 s.cpu.a v.1; { v.2 with cpu := { s.cpu with a := x.1, f := x.2 } }) ∧
  (Runs [0xB6#8] (aluHl .or) 8 fun s =>
    let v := memRead s.cpu.hl s; let x := or8 s.cpu.a v.1; { v.2 with cpu := { s.cpu with a := x.1, f := x.2 } }) ∧
  (Runs [0xBE#8] (aluHl .cp) 8 fun s =>
    let v := memRead s.cpu.hl s; { v.2 with cpu := { s.cpu with f := (sub8 s.cpu.a v.1 false).2 } })

/-- The immediate forms of ADD, ADC, SUB, SBC, AND, XOR, OR, CP (R222, R225, R228, R231, R234, R237, R240, R243). -/
def Obligations.AluImmediateForms : Prop :=
  ∀ n : Byte,
  (Runs [0xC6#8, n] (.add_a_n n) 8 fun s =>
    let x := add8 s.cpu.a n false; { s with cpu := { s.cpu with a := x.1, f := x.2 } }) ∧
  (Runs [0xCE#8, n] (.adc_a_n n) 8 fun s =>
    let x := add8 s.cpu.a n (flagC s.cpu.f); { s with cpu := { s.cpu with a := x.1, f := x.2 } }) ∧
  (Runs [0xD6#8, n] (.sub_n n) 8 fun s =>
    let x := sub8 s.cpu.a n false; { s with cpu := { s.cpu with a := x.1, f := x.2 } }) ∧
  (Runs [0xDE#8, n] (.sbc_a_n n) 8 fun s =>
    let x := sub8 s.cpu.a n (flagC s.cpu.f); { s with cpu := { s.cpu with a := x.1, f := x.2 } }) ∧
  (Runs [0xE6#8, n] (.and_n n) 8 fun s =>
    let x := and8 s.cpu.a n; { s with cpu := { s.cpu with a := x.1, f := x.2 } }) ∧
  (Runs [0xEE#8, n] (.xor_n n) 8 fun s =>
    let x := xor8 s.cpu.a n; { s with cpu := { s.cpu with a := x.1, f := x.2 } }) ∧
  (Runs [0xF6#8, n] (.or_n n) 8 fun s =>
    let x := or8 s.cpu.a n; { s with cpu := { s.cpu with a := x.1, f := x.2 } }) ∧
  (Runs [0xFE#8, n] (.cp_n n) 8 fun s => { s with cpu := { s.cpu with f := (sub8 s.cpu.a n false).2 } })

/-- The flags and results of 8-bit addition (R215), subtraction (R216) and logic (R217); bits 3 to 0 of F stay 0. -/
def Obligations.ByteArithmetic : Prop :=
  ∀ (a b : Byte) (c : Bool),
    let sum := a.toNat + b.toNat + bitNat c
    let x := add8 a b c
    let y := sub8 a b c
    (x.1.toNat = sum % 256 ∧ flagZ x.2 = decide (sum % 256 = 0) ∧ flagN x.2 = false ∧
      flagH x.2 = decide (0x0F < a.toNat % 16 + b.toNat % 16 + bitNat c) ∧ flagC x.2 = decide (0xFF < sum) ∧
      x.2 &&& 0x0F#8 = 0#8) ∧
    (y.1.toNat = (a.toNat + 512 - b.toNat - bitNat c) % 256 ∧ flagZ y.2 = decide (y.1 = 0#8) ∧ flagN y.2 = true ∧
      flagH y.2 = decide (a.toNat % 16 < b.toNat % 16 + bitNat c) ∧
      flagC y.2 = decide (a.toNat < b.toNat + bitNat c) ∧ y.2 &&& 0x0F#8 = 0#8) ∧
    and8 a b = (a &&& b, if a &&& b = 0#8 then 0xA0#8 else 0x20#8) ∧
    or8 a b = (a ||| b, if a ||| b = 0#8 then 0x80#8 else 0x00#8) ∧
    xor8 a b = (a ^^^ b, if a ^^^ b = 0#8 then 0x80#8 else 0x00#8)

/-- INC r (R244), INC (HL) (R245), DEC r (R246), DEC (HL) (R247): Z, N and Hf from the value, Cf unchanged; DAA (R248), CPL
(R249), SCF (R250), CCF (R251). -/
def Obligations.IncDecDaaAndFlagInstructions : Prop :=
  ((∀ r : Reg8, Runs [opcode (0x04 + 8 * r8Num r)] (incReg r) 4 fun s =>
     let v := s.cpu.get8 r
     { s with cpu := { s.cpu.set8 r (v + 1#8) with
         f := packFlags (decide (v + 1#8 = 0#8)) false (decide (v.toNat % 16 = 0x0F)) (flagC s.cpu.f) } }) ∧
   (∀ r : Reg8, Runs [opcode (0x05 + 8 * r8Num r)] (decReg r) 4 fun s =>
     let v := s.cpu.get8 r
     { s with cpu := { s.cpu.set8 r (v - 1#8) with
         f := packFlags (decide (v - 1#8 = 0#8)) true (decide (v.toNat % 16 = 0x00)) (flagC s.cpu.f) } }) ∧
   (Runs [0x34#8] .inc_mHl 12 fun s =>
     let x := memRead s.cpu.hl s
     let v := x.1
     { memWrite s.cpu.hl (v + 1#8) x.2 with cpu := { s.cpu with
         f := packFlags (decide (v + 1#8 = 0#8)) false (decide (v.toNat % 16 = 0x0F)) (flagC s.cpu.f) } }) ∧
   (Runs [0x35#8] .dec_mHl 12 fun s =>
     let x := memRead s.cpu.hl s
     let v := x.1
     { memWrite s.cpu.hl (v - 1#8) x.2 with cpu := { s.cpu with
         f := packFlags (decide (v - 1#8 = 0#8)) true (decide (v.toNat % 16 = 0x00)) (flagC s.cpu.f) } })) ∧
  ((Runs [0x27#8] .daa 4 fun s =>
     let a := s.cpu.a
     let c := flagC s.cpu.f
     let h := flagH s.cpu.f
     let high := c || decide (0x99 < a.toNat)
     let added := a + (if high then 0x60#8 else 0#8) + (if h || decide (0x09 < a.toNat % 16) then 0x06#8 else 0#8)
     let taken := a - (if c then 0x60#8 else 0#8) - (if h then 0x06#8 else 0#8)
     { s with cpu := { s.cpu with
         a := if flagN s.cpu.f then taken else added
         f := packFlags (decide ((if flagN s.cpu.f then taken else added) = 0#8)) (flagN s.cpu.f) false
           (if flagN s.cpu.f then c else high) } }) ∧
   (Runs [0x2F#8] .cpl 4 fun s =>
     { s with cpu := { s.cpu with a := ~~~s.cpu.a, f := packFlags (flagZ s.cpu.f) true true (flagC s.cpu.f) } }) ∧
   (Runs [0x37#8] .scf 4 fun s =>
     { s with cpu := { s.cpu with f := packFlags (flagZ s.cpu.f) false false true } }) ∧
   (Runs [0x3F#8] .ccf 4 fun s =>
     { s with cpu := { s.cpu with f := packFlags (flagZ s.cpu.f) false false (!flagC s.cpu.f) } }))

/-- DAA does its job: after the addition or subtraction of two two-digit decimal numbers in BCD, it leaves the two digits
of the decimal sum or difference, with Cf as the decimal carry or borrow (spec/42_alu8.md section 4). -/
def Obligations.DaaIsDecimal : Prop :=
  ∀ (x y : Nat) (c : Bool), x < 100 → y < 100 →
    (let s := add8 (bcd x) (bcd y) c
     let r := daa s.1 s.2
     r.1 = bcd ((x + y + bitNat c) % 100) ∧ flagC r.2 = decide (99 < x + y + bitNat c) ∧
       flagZ r.2 = decide ((x + y + bitNat c) % 100 = 0)) ∧
    (let s := sub8 (bcd x) (bcd y) c
     let r := daa s.1 s.2
     r.1 = bcd ((x + 200 - y - bitNat c) % 100) ∧ flagC r.2 = decide (x < y + bitNat c) ∧
       flagZ r.2 = decide ((x + 200 - y - bitNat c) % 100 = 0))

/-- ADD HL,rr (R270), INC rr (R271), DEC rr (R272), ADD SP,e (R273), LD HL,SP+e (R203). -/
def Obligations.WordArithmetic : Prop :=
  (∀ p : Reg16, Runs [opcode (0x09 + 0x10 * r16Num p)] (addHlPair p) 8 fun s =>
    let hl := s.cpu.hl
    let v := s.cpu.get16 p
    { s with cpu := { s.cpu.setHl (hl + v) with
        f := packFlags (flagZ s.cpu.f) false (decide (0x0FFF < hl.toNat % 0x1000 + v.toNat % 0x1000))
          (decide (0xFFFF < hl.toNat + v.toNat)) } }) ∧
  (∀ p : Reg16, Runs [opcode (0x03 + 0x10 * r16Num p)] (incPair p) 8
    fun s => { s with cpu := s.cpu.set16 p (s.cpu.get16 p + 1#16) }) ∧
  (∀ p : Reg16, Runs [opcode (0x0B + 0x10 * r16Num p)] (decPair p) 8
    fun s => { s with cpu := s.cpu.set16 p (s.cpu.get16 p - 1#16) }) ∧
  (∀ e : Byte, Runs [0xE8#8, e] (.add_sp_e e) 16 fun s =>
    { s with cpu := { s.cpu with
        sp := s.cpu.sp + e.signExtend 16
        f := packFlags false false (decide (0x0F < s.cpu.sp.toNat % 0x10 + e.toNat % 0x10))
          (decide (0xFF < s.cpu.sp.toNat % 0x100 + e.toNat)) } }) ∧
  (∀ e : Byte, Runs [0xF8#8, e] (.ld_hl_spE e) 12 fun s =>
    { s with cpu := { s.cpu.setHl (s.cpu.sp + e.signExtend 16) with
        f := packFlags false false (decide (0x0F < s.cpu.sp.toNat % 0x10 + e.toNat % 0x10))
          (decide (0xFF < s.cpu.sp.toNat % 0x100 + e.toNat)) } })

/-- The shift functions (R284), as numbers: result and carry-out; and RLCA (R280), RRCA (R281), RLA (R282), RRA (R283), which
clear Z whatever the result. -/
def Obligations.ShiftsAndRotatesOfA : Prop :=
  (∀ (v : Byte) (c : Bool),
     let b7 := decide (0x80 ≤ v.toNat)
     let b0 := decide (v.toNat % 2 = 1)
     let x := v.toNat
     ((rotOp .rlc v c).1.toNat = x * 2 % 256 + bitNat b7 ∧ (rotOp .rlc v c).2 = b7) ∧
     ((rotOp .rrc v c).1.toNat = x / 2 + 128 * bitNat b0 ∧ (rotOp .rrc v c).2 = b0) ∧
     ((rotOp .rl v c).1.toNat = x * 2 % 256 + bitNat c ∧ (rotOp .rl v c).2 = b7) ∧
     ((rotOp .rr v c).1.toNat = x / 2 + 128 * bitNat c ∧ (rotOp .rr v c).2 = b0) ∧
     ((rotOp .sla v c).1.toNat = x * 2 % 256 ∧ (rotOp .sla v c).2 = b7) ∧
     ((rotOp .sra v c).1.toNat = x / 2 + 128 * bitNat b7 ∧ (rotOp .sra v c).2 = b0) ∧
     ((rotOp .srl v c).1.toNat = x / 2 ∧ (rotOp .srl v c).2 = b0) ∧
     ((rotOp .swap v c).1.toNat = x % 16 * 16 + x / 16 ∧ (rotOp .swap v c).2 = false)) ∧
  ((Runs [0x07#8] .rlca 4 fun s => let x := rlc s.cpu.a
     { s with cpu := { s.cpu with a := x.1, f := packFlags false false false x.2 } }) ∧
   (Runs [0x0F#8] .rrca 4 fun s => let x := rrc s.cpu.a
     { s with cpu := { s.cpu with a := x.1, f := packFlags false false false x.2 } }) ∧
   (Runs [0x17#8] .rla 4 fun s => let x := rl s.cpu.a (flagC s.cpu.f)
     { s with cpu := { s.cpu with a := x.1, f := packFlags false false false x.2 } }) ∧
   (Runs [0x1F#8] .rra 4 fun s => let x := rr s.cpu.a (flagC s.cpu.f)
     { s with cpu := { s.cpu with a := x.1, f := packFlags false false false x.2 } }))

/-- The register forms of RLC, RRC, RL, RR, SLA, SRA, SWAP, SRL (R285, R287, R289, R291, R293, R295, R297, R299). -/
def Obligations.RotateRegisterForms : Prop :=
  ∀ (op : RotOp) (r : Reg8), Runs [0xCB#8, opcode (8 * rotNum op + r8Num r)] (rotReg op r) 8 fun s =>
    let x := match op with
      | .rlc => rlc (s.cpu.get8 r) | .rrc => rrc (s.cpu.get8 r)
      | .rl => rl (s.cpu.get8 r) (flagC s.cpu.f) | .rr => rr (s.cpu.get8 r) (flagC s.cpu.f)
      | .sla => sla (s.cpu.get8 r) | .sra => sra (s.cpu.get8 r)
      | .swap => swap (s.cpu.get8 r) | .srl => srl (s.cpu.get8 r)
    { s with cpu := { s.cpu.set8 r x.1 with f := packFlags (decide (x.1 = 0#8)) false false x.2 } }

/-- The memory forms of RLC, RRC, RL, RR, SLA, SRA, SWAP, SRL (R286, R288, R290, R292, R294, R296, R298, R300): one read,
then one write, at HL. -/
def Obligations.RotateMemoryForms : Prop :=
  ∀ op : RotOp, Runs [0xCB#8, opcode (8 * rotNum op + 6)] (rotHl op) 16 fun s =>
    let v := memRead s.cpu.hl s
    let x := match op with
      | .rlc => rlc v.1 | .rrc => rrc v.1 | .rl => rl v.1 (flagC s.cpu.f) | .rr => rr v.1 (flagC s.cpu.f)
      | .sla => sla v.1 | .sra => sra v.1 | .swap => swap v.1 | .srl => srl v.1
    { memWrite s.cpu.hl x.1 v.2 with
      cpu := { s.cpu with f := packFlags (decide (x.1 = 0#8)) false false x.2 } }

/-- BIT b,r (R301), BIT b,(HL) (R302), RES b,r (R303), RES b,(HL) (R304), SET b,r (R305), SET b,(HL) (R306). -/
def Obligations.BitInstructions : Prop :=
  ∀ b : Sel3,
    (∀ r : Reg8, Runs [0xCB#8, opcode (0x40 + 8 * b.num + r8Num r)] (bitReg b r) 8 fun s =>
      { s with cpu := { s.cpu with
          f := packFlags (!(s.cpu.get8 r).getLsbD b.num) false true (flagC s.cpu.f) } }) ∧
    (Runs [0xCB#8, opcode (0x46 + 8 * b.num)] (bitHl b) 12 fun s =>
      let v := memRead s.cpu.hl s
      { v.2 with cpu := { s.cpu with f := packFlags (!v.1.getLsbD b.num) false true (flagC s.cpu.f) } }) ∧
    (∀ r : Reg8, Runs [0xCB#8, opcode (0x80 + 8 * b.num + r8Num r)] (resReg b r) 8 fun s =>
      { s with cpu := s.cpu.set8 r (s.cpu.get8 r &&& ~~~(1#8 <<< b.num)) }) ∧
    (Runs [0xCB#8, opcode (0x86 + 8 * b.num)] (resHl b) 16 fun s =>
      let v := memRead s.cpu.hl s; memWrite s.cpu.hl (v.1 &&& ~~~(1#8 <<< b.num)) v.2) ∧
    (∀ r : Reg8, Runs [0xCB#8, opcode (0xC0 + 8 * b.num + r8Num r)] (setReg b r) 8 fun s =>
      { s with cpu := s.cpu.set8 r (s.cpu.get8 r ||| 1#8 <<< b.num) }) ∧
    (Runs [0xCB#8, opcode (0xC6 + 8 * b.num)] (setHl b) 16 fun s =>
      let v := memRead s.cpu.hl s; memWrite s.cpu.hl (v.1 ||| 1#8 <<< b.num) v.2)

/-- JP nn (R311), JR e (R312), JP cc,nn (R313), JR cc,e (R314), JP HL (R315), with the conditions of R310. -/
def Obligations.Jumps : Prop :=
  (∀ f : Byte, condHolds .nz f = !f.getLsbD 7 ∧ condHolds .z f = f.getLsbD 7 ∧ condHolds .nc f = !f.getLsbD 4 ∧
    condHolds .c f = f.getLsbD 4) ∧
  (∀ lo hi : Byte, Runs [0xC3#8, lo, hi] (.jp_nn (cat hi lo)) 16
    fun s => { s with cpu := { s.cpu with pc := cat hi lo } }) ∧
  (∀ e : Byte, Runs [0x18#8, e] (.jr_e e) 12
    fun s => { s with cpu := { s.cpu with pc := s.cpu.pc + e.signExtend 16 } }) ∧
  (∀ (cc : Cond) (lo hi : Byte), RunsIf [opcode (0xC2 + 8 * ccNum cc), lo, hi] (jpCond cc (cat hi lo)) cc 16 12
    fun s => { s with cpu := { s.cpu with pc := cat hi lo } }) ∧
  (∀ (cc : Cond) (e : Byte), RunsIf [opcode (0x20 + 8 * ccNum cc), e] (jrCond cc e) cc 12 8
    fun s => { s with cpu := { s.cpu with pc := s.cpu.pc + e.signExtend 16 } }) ∧
  Runs [0xE9#8] .jp_hl 4 fun s => { s with cpu := { s.cpu with pc := s.cpu.hl } }

/-- CALL nn (R316), CALL cc,nn (R317), RST t (R325): the address after the instruction is pushed, high byte first; RET (R320),
RET cc (R321), RETI (R323). -/
def Obligations.CallsAndReturns : Prop :=
  (let callTo : Word → State → State := fun a s =>
     let s1 := memWrite (s.cpu.sp - 1#16) (hiByte s.cpu.pc) { s with cpu := { s.cpu with sp := s.cpu.sp - 1#16 } }
     let s2 := memWrite (s.cpu.sp - 2#16) (loByte s.cpu.pc) { s1 with cpu := { s.cpu with sp := s.cpu.sp - 2#16 } }
     { s2 with cpu := { s.cpu with sp := s.cpu.sp - 2#16, pc := a } }
   (∀ lo hi : Byte, Runs [0xCD#8, lo, hi] (.call_nn (cat hi lo)) 24 (callTo (cat hi lo))) ∧
   (∀ (cc : Cond) (lo hi : Byte), RunsIf [opcode (0xC4 + 8 * ccNum cc), lo, hi] (callCond cc (cat hi lo)) cc 24 12
     (callTo (cat hi lo))) ∧
   ∀ t : Sel3, Runs [opcode (0xC7 + 8 * t.num)] (rstTo t) 16 (callTo (BitVec.ofNat 16 (8 * t.num)))) ∧
  (let popPc : State → State := fun s =>
     let lo := memRead s.cpu.sp s
     let hi := memRead (s.cpu.sp + 1#16) { lo.2 with cpu := { s.cpu with sp := s.cpu.sp + 1#16 } }
     { hi.2 with cpu := { s.cpu with sp := s.cpu.sp + 2#16, pc := cat hi.1 lo.1 } }
   (Runs [0xC9#8] .ret 16 popPc) ∧
   (∀ cc : Cond, RunsIf [opcode (0xC0 + 8 * ccNum cc)] (retCond cc) cc 20 8 popPc) ∧
   Runs [0xD9#8] .reti 16 fun s =>
     { popPc s with cpu := { (popPc s).cpu with ime := true, eiPending := false } })

/-- NOP (R330), DI (R333), EI (R334), the eleven unassigned bytes (R336): 4 cycles each. EI with IME already 1 changes nothing;
else it sets IME at once, or with EI_DELAY = 1 the latch. An instruction that starts with the latch set under EI_DELAY = 1
(`eiArmed`) ends with the latch clear and, unless it is DI, IME set, whatever it did to either; one that starts unarmed, as an
EI after no EI does, ends as its own effect left it. `StepRunsDecodedInstruction` says that the state before the fetch is the
one sampled. That EI leaves the latch alone too when IME is already 1, as the corner case of R334 says and its Operation does
not, is the model's inference (log entry 19). -/
def Obligations.NopAndInterruptControl : Prop :=
  (Runs [0x00#8] .nop 4 fun s => s) ∧
  (Runs [0xF3#8] .di 4 fun s => { s with cpu := { s.cpu with ime := false, eiPending := false } }) ∧
  (Runs [0xFB#8] .ei 4 fun s =>
    { s with cpu :=
        if s.cpu.ime then s.cpu
        else if s.par.eiDelay then { s.cpu with eiPending := true }
        else { s.cpu with ime := true } }) ∧
  (∀ (armed : Bool) (i : Instr) (s : State), applyArmed armed i s =
    if armed then
      { s with cpu := { s.cpu with eiPending := false, ime := if i = .di then s.cpu.ime else true } }
    else s) ∧
  (∀ s : State, eiArmed s = (s.par.eiDelay && s.cpu.eiPending)) ∧
  (Runs [0xD3#8] .unassigned_d3 4 fun s => s) ∧ (Runs [0xDB#8] .unassigned_db 4 fun s => s) ∧
  (Runs [0xDD#8] .unassigned_dd 4 fun s => s) ∧ (Runs [0xE3#8] .unassigned_e3 4 fun s => s) ∧
  (Runs [0xE4#8] .unassigned_e4 4 fun s => s) ∧ (Runs [0xEB#8] .unassigned_eb 4 fun s => s) ∧
  (Runs [0xEC#8] .unassigned_ec 4 fun s => s) ∧ (Runs [0xED#8] .unassigned_ed 4 fun s => s) ∧
  (Runs [0xF4#8] .unassigned_f4 4 fun s => s) ∧ (Runs [0xFC#8] .unassigned_fc 4 fun s => s) ∧
  (Runs [0xFD#8] .unassigned_fd 4 fun s => s)

/-- HALT (R331, R25): with IME, or with nothing pending, it halts; else it sets the HALT-bug latch (under EI_DELAY = 1 an
armed EI counts as IME, R334). A halted CPU spends 4 cycles without a fetch or any other effect (R372). -/
def Obligations.Halting : Prop :=
  (Runs [0x76#8] .halt 4 fun s =>
    { s with cpu :=
        if s.cpu.ime ∨ (s.par.eiDelay ∧ s.cpu.eiPending) ∨ s.irq.enable &&& s.irq.request &&& 0x1F#8 = 0#8 then
          { s.cpu with halted := true }
        else { s.cpu with haltBug := true } }) ∧
  ∀ s : State, s.cpu.halted = true →
    cpuStep s = .next { timerAdvance 4 s with charged := 4 }

/-! ### Frames: what an instruction leaves alone -/

/-- An instruction that stores nothing changes, beside the CPU registers, nothing but the timer and the timer's request,
and no byte of memory but DIV, TIMA and IF. -/
def Obligations.FrameOfInstructionsThatStoreNothing : Prop :=
  ∀ (i : Instr) (s t : State), StoresNothing i → exec i s = .next t →
    SameButCpu s t ∧ ∀ b : Word, timeByte b.toNat = false → load b.toNat t = load b.toNat s

/-- An instruction that stores one byte, at the address its meaning computes, changes no byte outside those that a CPU
write at that address reaches; one that stores a word, none outside those that CPU writes at its two addresses reach:
SP-1 and SP-2 for PUSH, CALL and RST, nn and nn+1 for LD (nn),SP. Unless it stores to an I/O register, it changes no
register of the pixel pipeline, the sound pipeline, the DMA unit or the serial port, no host state, no image and no
parameter. -/
def Obligations.FrameOfInstructionsThatStore : Prop :=
  let away : State → State → Prop := fun s t => t = { s with
    cpu := t.cpu, mem := t.mem, xram := t.xram, mbc := t.mbc, timer := t.timer, irq := t.irq, charged := t.charged }
  (∀ (i : Instr) (a : Word) (s t : State), StoresAt s i a → exec i s = .next t →
    (∀ b : Word, writeReaches s.mbc a.toNat b.toNat = false → timeByte b.toNat = false →
      load b.toNat t = load b.toNat s) ∧
    (regionOf a.toNat ≠ .io → away s t)) ∧
  (∀ (i : Instr) (s t : State), Pushes i → exec i s = .next t →
    (∀ b : Word, writeReaches s.mbc (s.cpu.sp - 1#16).toNat b.toNat = false →
      writeReaches s.mbc (s.cpu.sp - 2#16).toNat b.toNat = false → timeByte b.toNat = false →
      load b.toNat t = load b.toNat s) ∧
    (regionOf (s.cpu.sp - 1#16).toNat ≠ .io → regionOf (s.cpu.sp - 2#16).toNat ≠ .io → away s t)) ∧
  ∀ (nn : Word) (s t : State), exec (.ld_mNn_sp nn) s = .next t →
    (∀ b : Word, writeReaches s.mbc nn.toNat b.toNat = false → writeReaches s.mbc (nn + 1#16).toNat b.toNat = false →
      timeByte b.toNat = false → load b.toNat t = load b.toNat s) ∧
    (regionOf nn.toNat ≠ .io → regionOf (nn + 1#16).toNat ≠ .io → away s t)

/-- No instruction changes a register of A, B, C, D, E, H, L that is none of its destinations. SP changes only by the
instructions of `ChangesSp`, PC (after the fetch) only by jumps, calls and returns, IME and the EI latch only by EI, DI
and RETI, `Halted` and `HaltBug` only by HALT. -/
def Obligations.FrameOfRegisters : Prop :=
  (∀ (i : Instr) (r : Reg8) (s t : State), ¬ Destination i r → exec i s = .next t → t.cpu.get8 r = s.cpu.get8 r) ∧
  (∀ (i : Instr) (s t : State), exec i s = .next t →
     (¬ ChangesSp i → t.cpu.sp = s.cpu.sp) ∧ (¬ ChangesPc i → t.cpu.pc = s.cpu.pc) ∧
     (i ≠ .ei → i ≠ .di → i ≠ .reti → t.cpu.ime = s.cpu.ime ∧ t.cpu.eiPending = s.cpu.eiPending) ∧
     (i ≠ .halt → t.cpu.halted = s.cpu.halted ∧ t.cpu.haltBug = s.cpu.haltBug))

/-- No load, store, push, pop but POP AF, pair step, RES, SET, jump, call, return or NOP changes a flag; INC, DEC, BIT and CPL keep
Cf; ADD HL, CPL, SCF and CCF keep Z; DAA keeps N. -/
def Obligations.FrameOfFlags : Prop :=
  ∀ (i : Instr) (s t : State), exec i s = .next t →
    (KeepsFlags i → t.cpu.f = s.cpu.f) ∧
    ((∃ r, i = incReg r) ∨ (∃ r, i = decReg r) ∨ i = .inc_mHl ∨ i = .dec_mHl ∨ (∃ b r, i = bitReg b r) ∨
      (∃ b, i = bitHl b) ∨ i = .cpl → flagC t.cpu.f = flagC s.cpu.f) ∧
    ((∃ p, i = addHlPair p) ∨ i = .cpl ∨ i = .scf ∨ i = .ccf → flagZ t.cpu.f = flagZ s.cpu.f) ∧
    (i = .daa → flagN t.cpu.f = flagN s.cpu.f)

/-- The register file (R20): a pair is its two bytes side by side, a write to a pair writes both halves, a write to a half
changes the pair, and no register is hardwired. -/
def Obligations.RegisterFile : Prop :=
  (∀ u : Cpu, u.af = u.a ++ u.f ∧ u.bc = u.b ++ u.c ∧ u.de = u.d ++ u.e ∧ u.hl = u.h ++ u.l) ∧
  (∀ (r : Reg8) (v : Byte) (u : Cpu), (u.set8 r v).get8 r = v ∧
    ∀ q : Reg8, q ≠ r → (u.set8 r v).get8 q = u.get8 q) ∧
  (∀ (r : Reg8) (v : Byte) (u : Cpu), (u.set8 r v).f = u.f ∧ (u.set8 r v).sp = u.sp ∧ (u.set8 r v).pc = u.pc) ∧
  (∀ (p : Reg16) (v : Word) (u : Cpu), (u.set16 p v).get16 p = v ∧
    ∀ q : Reg16, q ≠ p → (u.set16 p v).get16 q = u.get16 q) ∧
  (∀ (p : Reg16) (v : Word) (u : Cpu), (u.set16 p v).a = u.a ∧ (u.set16 p v).f = u.f ∧ (u.set16 p v).pc = u.pc) ∧
  ∀ (u : Cpu) (hi lo : Byte), ((u.set8 .b hi).set8 .c lo).bc = hi ++ lo ∧ ((u.set8 .d hi).set8 .e lo).de = hi ++ lo ∧
    ((u.set8 .h hi).set8 .l lo).hl = hi ++ lo

/-! ### The bus -/

/-- `MemRead` (R84): the charge of four cycles, then DMA blocking, boot overlay, mode blocking, register value, image; `Load`
(R86): the region of the address selects the image; a debug peek has the register values and the images alone. -/
def Obligations.CpuReads : Prop :=
  (∀ (a : Word) (s : State),
     let u : State := { timerAdvance 4 s with charged := s.charged + 4 }
     let n := a.toNat
     let mode := u.ppu.stat.toNat % 4
     memRead a s =
       (if u.dma.active = true ∧ dmaExempt u.par a = false then u.par.blockedRead
        else if u.bootOverlay = true ∧ n ≤ 0x00FF then Memory.read u.bootRom n
        else if 0x8000 ≤ n ∧ n ≤ 0x9FFF ∧ mode = 3 then 0xFF#8
        else if 0xFE00 ≤ n ∧ n ≤ 0xFE9F ∧ (mode = 2 ∨ mode = 3) then 0xFF#8
        else if 0xFF00 ≤ n ∧ n ≤ 0xFF7F then ioRead (ioRegOf n) n u
        else load n u, u)) ∧
  (∀ (a : Word) (s : State),
     let n := a.toNat
     let rom : Nat → Byte := fun off => if off < s.cart.len then Memory.read s.cart.bytes off else 0xFF#8
     load n s =
       if n ≤ 0x3FFF then rom n
       else if n ≤ 0x7FFF then rom (s.mbc.romBank * 0x4000 + (n - 0x4000))
       else if n ≤ 0x9FFF then Memory.read s.mem n
       else if n ≤ 0xBFFF then xramRead s.mbc s.xram n
       else if n ≤ 0xDFFF then Memory.read s.mem n
       else if n ≤ 0xFDFF then Memory.read s.mem (n - 0x2000)
       else if n ≤ 0xFE9F then Memory.read s.mem n
       else if n ≤ 0xFEFF then 0xFF#8
       else if n = 0xFF04 then hiByte s.timer.divCounter
       else if n ≤ 0xFF7F then ioStored (ioRegOf n) n s
       else if n ≤ 0xFFFE then Memory.read s.mem n
       else s.irq.enable) ∧
  (∀ (a : Word) (s : State), debugPeek a s =
   if 0xFF00 ≤ a.toNat ∧ a.toNat ≤ 0xFF7F then ioRead (ioRegOf a.toNat) a.toNat s else load a.toNat s)

/-- `MemWrite` (R85): the charge of four cycles, then DMA blocking, then one route by address; the echo region is work RAM
under a second address (R95). -/
def Obligations.CpuWrites : Prop :=
  (∀ (a : Word) (v : Byte) (s : State),
     let u : State := { timerAdvance 4 s with charged := s.charged + 4 }
     let n := a.toNat
     let mode := u.ppu.stat.toNat % 4
     memWrite a v s =
       if u.dma.active = true ∧ dmaExempt u.par a = false then u
       else if n ≤ 0x7FFF then { u with mbc := mbcWrite a v u.mbc }
       else if n ≤ 0x9FFF then (if mode = 3 then u else { u with mem := Memory.write u.mem n v })
       else if n ≤ 0xBFFF then { u with xram := xramWrite u.mbc u.xram n v }
       else if n ≤ 0xDFFF then { u with mem := Memory.write u.mem n v }
       else if n ≤ 0xFDFF then { u with mem := Memory.write u.mem (n - 0x2000) v }
       else if n ≤ 0xFE9F then (if mode = 2 ∨ mode = 3 then u else { u with mem := Memory.write u.mem n v })
       else if n ≤ 0xFEFF then u
       else if n ≤ 0xFF7F then ioWrite (ioRegOf n) n v u
       else if n ≤ 0xFFFE then { u with mem := Memory.write u.mem n v }
       else { u with irq := { u.irq with enable := v } }) ∧
  (∀ (a : Word) (v : Byte) (s : State), 0xE000 ≤ a.toNat → a.toNat ≤ 0xFDFF →
     load a.toNat s = load (a - 0x2000#16).toNat s ∧ routeWrite a v s = routeWrite (a - 0x2000#16) v s)

/-- The I/O registers as a CPU write and read meet them outside a transfer (spec/10_state.md section 3): P1, SB, SC, DIV, TIMA,
TMA, TAC, IF, IE, LCDC, STAT, SCY, SCX, LY, LYC, DMA, BGP, OBP0, OBP1, WY, WX, BOOT, the sound registers (those whose write
does more than store are written in `SoundRegisterWrites`, DMA in `OamDma`), wave RAM, and every plain byte. -/
def Obligations.IoRegisters : Prop :=
  ∀ (v : Byte) (s : State), s.dma.active = false →
    ((cpuWrite 0xFF00#16 v s = { s with p1 := v &&& 0x30#8 } ∧
        cpuRead 0xFF00#16 s = 0xC0#8 ||| s.p1 ||| (0x0F#8 &&&
          (if s.p1.getLsbD 4 then 0x0F#8 else s.port.joy >>> 4) &&&
          (if s.p1.getLsbD 5 then 0x0F#8 else s.port.joy &&& 0x0F#8))) ∧
      (cpuWrite 0xFF01#16 v s = { s with sb := v } ∧ cpuRead 0xFF01#16 s = s.sb) ∧
      (cpuWrite 0xFF02#16 v s = { s with sc := v, port := { s.port with
          serialOut := if v.getLsbD 7 then s.port.serialOut ++ [s.sb] else s.port.serialOut } } ∧
        cpuRead 0xFF02#16 s = s.sc) ∧
      (cpuWrite 0xFF04#16 v s = { s with timer := { s.timer with divCounter := 0#16 } } ∧
        cpuRead 0xFF04#16 s = s.timer.divCounter.extractLsb' 8 8) ∧
      (cpuWrite 0xFF05#16 v s = { s with timer := { s.timer with tima := v } } ∧ cpuRead 0xFF05#16 s = s.timer.tima) ∧
      (cpuWrite 0xFF06#16 v s = { s with timer := { s.timer with tma := v } } ∧ cpuRead 0xFF06#16 s = s.timer.tma) ∧
      (cpuWrite 0xFF07#16 v s = { s with timer := { s.timer with tac := v, timaAcc := 0 } } ∧
        cpuRead 0xFF07#16 s = s.timer.tac) ∧
      (cpuWrite 0xFF0F#16 v s = { s with irq := { s.irq with request := v &&& 0x1F#8 } } ∧
        cpuRead 0xFF0F#16 s = s.irq.request ||| 0xE0#8) ∧
      (cpuWrite 0xFFFF#16 v s = { s with irq := { s.irq with enable := v } } ∧ cpuRead 0xFFFF#16 s = s.irq.enable)) ∧
    ((cpuWrite 0xFF40#16 v s =
          (if s.ppu.lcdc.getLsbD 7 = true ∧ v.getLsbD 7 = false then
            { s with ppu := { s.ppu with lcdc := v, ly := 0#8, budget := 456, stat := s.ppu.stat &&& 0xFC#8 } }
          else { s with ppu := { s.ppu with lcdc := v } }) ∧
        cpuRead 0xFF40#16 s = s.ppu.lcdc) ∧
      (cpuWrite 0xFF41#16 v s =
          { s with ppu := { s.ppu with stat := 0x80#8 ||| (v &&& 0x78#8) ||| (s.ppu.stat &&& 0x07#8) } } ∧
        cpuRead 0xFF41#16 s = s.ppu.stat) ∧
      (cpuWrite 0xFF42#16 v s = { s with ppu := { s.ppu with scy := v } } ∧ cpuRead 0xFF42#16 s = s.ppu.scy) ∧
      (cpuWrite 0xFF43#16 v s = { s with ppu := { s.ppu with scx := v } } ∧ cpuRead 0xFF43#16 s = s.ppu.scx) ∧
      (cpuWrite 0xFF44#16 v s = { s with ppu := { s.ppu with ly := 0#8 } } ∧ cpuRead 0xFF44#16 s = s.ppu.ly) ∧
      (cpuWrite 0xFF45#16 v s = { s with ppu := { s.ppu with lyc := v } } ∧ cpuRead 0xFF45#16 s = s.ppu.lyc) ∧
      cpuRead 0xFF46#16 s = s.dma.reg ∧
      (cpuWrite 0xFF47#16 v s = { s with ppu := { s.ppu with bgp := v } } ∧ cpuRead 0xFF47#16 s = s.ppu.bgp) ∧
      (cpuWrite 0xFF48#16 v s = { s with ppu := { s.ppu with obp0 := v } } ∧ cpuRead 0xFF48#16 s = s.ppu.obp0) ∧
      (cpuWrite 0xFF49#16 v s = { s with ppu := { s.ppu with obp1 := v } } ∧ cpuRead 0xFF49#16 s = s.ppu.obp1) ∧
      (cpuWrite 0xFF4A#16 v s = { s with ppu := { s.ppu with wy := v } } ∧ cpuRead 0xFF4A#16 s = s.ppu.wy) ∧
      (cpuWrite 0xFF4B#16 v s = { s with ppu := { s.ppu with wx := v } } ∧ cpuRead 0xFF4B#16 s = s.ppu.wx) ∧
      (cpuWrite 0xFF50#16 v s = { s with bootOverlay := false, mem := Memory.write s.mem 0xFF50 v } ∧
        cpuRead 0xFF50#16 s = Memory.read s.mem 0xFF50)) ∧
    (cpuWrite 0xFF10#16 v s = { s with apu := { s.apu with sweep := { s.apu.sweep with nr10 := v } } } ∧
      cpuWrite 0xFF12#16 v s = { s with apu := { s.apu with pulse1 := { s.apu.pulse1 with nr2 := v } } } ∧
      cpuWrite 0xFF13#16 v s = { s with apu := { s.apu with pulse1 := { s.apu.pulse1 with nr3 := v } } } ∧
      cpuWrite 0xFF17#16 v s = { s with apu := { s.apu with pulse2 := { s.apu.pulse2 with nr2 := v } } } ∧
      cpuWrite 0xFF18#16 v s = { s with apu := { s.apu with pulse2 := { s.apu.pulse2 with nr3 := v } } } ∧
      cpuWrite 0xFF1C#16 v s = { s with apu := { s.apu with wave := { s.apu.wave with nr32 := v } } } ∧
      cpuWrite 0xFF1D#16 v s = { s with apu := { s.apu with wave := { s.apu.wave with nr33 := v } } } ∧
      cpuWrite 0xFF21#16 v s = { s with apu := { s.apu with noise := { s.apu.noise with nr42 := v } } } ∧
      cpuWrite 0xFF22#16 v s = { s with apu := { s.apu with noise := { s.apu.noise with nr43 := v } } } ∧
      cpuWrite 0xFF24#16 v s = { s with apu := { s.apu with nr50 := v } } ∧
      cpuWrite 0xFF25#16 v s = { s with apu := { s.apu with nr51 := v } }) ∧
    ([0xFF10#16, 0xFF11#16, 0xFF12#16, 0xFF13#16, 0xFF14#16].map (cpuRead · s) =
        [s.apu.sweep.nr10, s.apu.pulse1.nr1, s.apu.pulse1.nr2, s.apu.pulse1.nr3, s.apu.pulse1.nr4] ∧
      [0xFF16#16, 0xFF17#16, 0xFF18#16, 0xFF19#16].map (cpuRead · s) =
        [s.apu.pulse2.nr1, s.apu.pulse2.nr2, s.apu.pulse2.nr3, s.apu.pulse2.nr4] ∧
      [0xFF1A#16, 0xFF1B#16, 0xFF1C#16, 0xFF1D#16, 0xFF1E#16].map (cpuRead · s) =
        [s.apu.wave.nr30, s.apu.wave.nr31, s.apu.wave.nr32, s.apu.wave.nr33, s.apu.wave.nr34] ∧
      [0xFF20#16, 0xFF21#16, 0xFF22#16, 0xFF23#16, 0xFF24#16, 0xFF25#16].map (cpuRead · s) =
        [s.apu.noise.nr41, s.apu.noise.nr42, s.apu.noise.nr43, s.apu.noise.nr44, s.apu.nr50, s.apu.nr51] ∧
      (s.apu.nr52 &&& 0x7F#8 = 0#8 → cpuRead 0xFF26#16 s = s.apu.nr52 ||| 0x70#8 |||
        BitVec.ofNat 8 (8 * bitNat s.apu.noise.on + 4 * bitNat s.apu.wave.on + 2 * bitNat s.apu.pulse2.on +
          bitNat s.apu.pulse1.on))) ∧
    ∀ a : Word,
      (0xFF30 ≤ a.toNat → a.toNat ≤ 0xFF3F →
        cpuWrite a v s = (if s.apu.wave.nr30.getLsbD 7 then s else { s with mem := Memory.write s.mem a.toNat v }) ∧
        cpuRead a s = Memory.read s.mem a.toNat) ∧
      (a.toNat = 0xFF03 ∨ (0xFF08 ≤ a.toNat ∧ a.toNat ≤ 0xFF0E) ∨ a.toNat = 0xFF15 ∨ a.toNat = 0xFF1F ∨
          (0xFF27 ≤ a.toNat ∧ a.toNat ≤ 0xFF2F) ∨ (0xFF4C ≤ a.toNat ∧ a.toNat ≤ 0xFF4F) ∨
          (0xFF51 ≤ a.toNat ∧ a.toNat ≤ 0xFF7F) →
        cpuWrite a v s = { s with mem := Memory.write s.mem a.toNat v } ∧ cpuRead a s = Memory.read s.mem a.toNat)

/-- What a CPU write stores, the image gives back: in video RAM, work RAM, its echo, OAM, HRAM and IE whole, in cartridge RAM
whole or, for an MBC2, the low nibble under ones, where no blocking applies. -/
def Obligations.MemoryReadsBack : Prop :=
  ∀ (a : Word) (v : Byte) (s : State), Memory.wf s.mem = true → Memory.wf s.xram = true →
    s.dma.active = false → ppuBlocks a s = false →
    ((0x8000 ≤ a.toNat ∧ a.toNat ≤ 0x9FFF) ∨ (0xC000 ≤ a.toNat ∧ a.toNat ≤ 0xFE9F) ∨ 0xFF80 ≤ a.toNat →
      load a.toNat (cpuWrite a v s) = v) ∧
    (0xA000 ≤ a.toNat → a.toNat ≤ 0xBFFF → s.mbc.ramEnabled = true →
      (s.mbc.header.mbcType = .mbc2 → load a.toNat (cpuWrite a v s) = 0xF0#8 ||| (v &&& 0x0F#8)) ∧
      (s.mbc.header.mbcType ≠ .mbc2 → s.mbc.header.ramBanks ≠ 0 → load a.toNat (cpuWrite a v s) = v) ∧
      (s.mbc.header.mbcType ≠ .mbc2 → s.mbc.header.ramBanks = 0 → load a.toNat (cpuWrite a v s) = 0xFF#8))

/-- The cartridge controller (R101, R102, R103, R104), by the address ranges of R90. -/
def Obligations.CartridgeController : Prop :=
  ∀ (a : Word) (v : Byte) (m : Mbc),
    let n := a.toNat
    let on := decide (v.toNat % 16 = 0x0A)
    let fix1 : Nat → Nat := fun b => if b = 0x00 ∨ b = 0x20 ∨ b = 0x40 ∨ b = 0x60 then b + 1 else b
    let fix0 : Nat → Nat := fun b => if b = 0 then 1 else b
    let rom : Nat → Mbc := fun b => { m with romBank := b % m.header.romBanks }
    let ram : Nat → Mbc := fun b => { m with ramBank := b % max m.header.ramBanks 1 }
    (n ≤ 0x1FFF → mbcWrite a v m = match m.header.mbcType with
      | .romOnly => m
      | .mbc2 => if n / 0x100 % 2 = 0 then { m with ramEnabled := on } else m
      | .mbc1 | .mbc35 => { m with ramEnabled := on }) ∧
    (0x2000 ≤ n → n ≤ 0x3FFF → mbcWrite a v m = match m.header.mbcType with
      | .romOnly => m
      | .mbc1 => rom (fix1 ((m.romBank &&& 0x60) ||| (v.toNat % 0x20)))
      | .mbc2 => if n / 0x100 % 2 = 1 then rom (fix0 (v.toNat % 0x10)) else m
      | .mbc35 => rom (fix0 (v.toNat % 0x80))) ∧
    (0x4000 ≤ n → n ≤ 0x5FFF → mbcWrite a v m = match m.header.mbcType with
      | .romOnly | .mbc2 => m
      | .mbc1 => if m.bankMode = .ramBanking then ram (v.toNat % 4)
        else rom (fix1 ((m.romBank % 0x20) ||| (v.toNat % 4 * 0x20)))
      | .mbc35 => ram (v.toNat % 0x10)) ∧
    (0x6000 ≤ n → n ≤ 0x7FFF → mbcWrite a v m = match m.header.mbcType with
      | .mbc1 => if v.toNat % 2 = 1 then { rom (fix0 (m.romBank % 0x20)) with bankMode := .ramBanking }
        else { m with bankMode := .romBanking, ramBank := 0 }
      | .romOnly | .mbc2 | .mbc35 => m)

/-- No step changes the cartridge image, the boot ROM, the parameters or what the header fixed. -/
def Obligations.StepKeepsImages : Prop :=
  ∀ s t : State, step s = .next t →
    t.cart = s.cart ∧ t.bootRom = s.bootRom ∧ t.par = s.par ∧ t.mbc.header = s.mbc.header

/-- OAM DMA: a write of 0xFF46 copies the 160 bytes of the clamped page into OAM at once (R105), the transfer is over when
its cycles have run (R106), and while it runs every CPU read outside the exempt range gives `BLOCKED_READ` and every
write outside it is ignored; by default HRAM is exempt and the value is 0xFF (R107). -/
def Obligations.OamDma : Prop :=
  (∀ (v : Byte) (s : State), Memory.wf s.mem = true → s.dma.active = false →
    let t := cpuWrite 0xFF46#16 v s
    t.dma = { reg := v, active := true, elapsed := 0 } ∧ t = { s with dma := t.dma, mem := t.mem } ∧
    (∀ k : Nat, k < 0xA0 → load (0xFE00 + k) t =
      load (min v.toNat s.par.dmaMaxPage.toNat * 0x100 + k) { s with dma := t.dma }) ∧
    ∀ b : Nat, regionOf b ≠ .oam → b ≠ 0xFF46 → load b t = load b s) ∧
  (∀ (c : Nat) (s : State), dmaAdvance c s =
    if s.dma.active = true then
      { s with dma := { s.dma with
          elapsed := s.dma.elapsed + c, active := decide (s.dma.elapsed + c < s.par.dmaCycles) } }
    else s) ∧
  (∀ (a : Word) (v : Byte) (s : State), s.dma.active = true → dmaExempt s.par a = false →
    cpuRead a s = s.par.blockedRead ∧ cpuWrite a v s = s) ∧
  ∀ a : Word, dmaExempt Params.default a = decide (0xFF80 ≤ a.toNat ∧ a.toNat ≤ 0xFFFE) ∧
    Params.default.blockedRead = 0xFF#8 ∧ Params.default.dmaCycles = 160 ∧ Params.default.dmaMaxPage = 0xF1#8

/-! ### Cycles and the timer -/

/-- Cycle accounting (R371): an instruction, its fetches charged, brings the timer forward by exactly its cycle count, and its
accesses charge no more than that: the timer and IF, if it stores nothing or stores to none of the six registers of the timer
and the interrupts; the divider, if it stores elsewhere than to DIV. For the instructions that store a byte, a store to DIV
that nothing blocks is the last access and leaves the divider at 0. The instructions that store a word (PUSH, CALL, RST,
LD (nn),SP) store to two addresses. -/
def Obligations.EveryCycleReachesTheTimer : Prop :=
  let timerReg : Word → Bool := fun a =>
    a ∈ [0xFF04#16, 0xFF05#16, 0xFF06#16, 0xFF07#16, 0xFF0F#16, 0xFFFF#16]
  let ticked : State → State → Prop := fun s t =>
    (t.timer, t.irq) = timerTicks (t.charged - s.charged) (s.timer, s.irq)
  let counted : State → State → Prop := fun s t =>
    t.timer.divCounter = s.timer.divCounter + BitVec.ofNat 16 (t.charged - s.charged)
  ∀ (i : Instr) (s t : State), s.charged = 4 * (encode i).length → exec i s = .next t →
    s.charged ≤ t.charged ∧
    (StoresNothing i → ticked s t) ∧
    (∀ a, StoresAt s i a →
      (timerReg a = false → ticked s t) ∧ (a ≠ 0xFF04#16 → counted s t) ∧
      (a = 0xFF04#16 → dmaBlocks a s = false → t.timer.divCounter = 0#16)) ∧
    (Pushes i →
      (timerReg (s.cpu.sp - 1#16) = false → timerReg (s.cpu.sp - 2#16) = false → ticked s t) ∧
      (s.cpu.sp - 1#16 ≠ 0xFF04#16 → s.cpu.sp - 2#16 ≠ 0xFF04#16 → counted s t)) ∧
    (∀ nn, i = .ld_mNn_sp nn →
      (timerReg nn = false → timerReg (nn + 1#16) = false → ticked s t) ∧
      (nn ≠ 0xFF04#16 → nn + 1#16 ≠ 0xFF04#16 → counted s t))

/-- `TimerAdvance(n)` (R360) with `TimaIncrement` (R361): DIV's counter counts every cycle; with the timer enabled TIMA
makes one increment for each whole period of the accumulated cycles, an overflow reloads it from TMA and requests
interrupt 2; with the timer off TIMA keeps its value. -/
def Obligations.TimerAdvances : Prop :=
  ∀ (n : Nat) (t : Timer) (q : Irq),
    let x := timerTicks n (t, q)
    let period := match t.tac.toNat % 4 with | 0 => 1024 | 1 => 16 | 2 => 64 | _ => 256
    let increment : Byte × Irq → Byte × Irq := fun y =>
      if y.1 = 0xFF#8 then (t.tma, { y.2 with request := y.2.request ||| 0x04#8 }) else (y.1 + 1#8, y.2)
    x.1.divCounter.toNat = (t.divCounter.toNat + n) % 0x10000 ∧ x.1.tma = t.tma ∧ x.1.tac = t.tac ∧
    (t.tac.getLsbD 2 = false → x.1.timaAcc = t.timaAcc ∧ x.1.tima = t.tima ∧ x.2 = q) ∧
    (t.tac.getLsbD 2 = true → ∃ k : Nat, t.timaAcc + n = k * period + x.1.timaAcc ∧ x.1.timaAcc < period ∧
      (x.1.tima, x.2) = iterate increment k (t.tima, q))

/-- Advancing the timer by m and then by n cycles is advancing it by m + n: the point at which an access is charged
moves no increment. -/
def Obligations.TimerAdvanceSplits : Prop :=
  ∀ (m n : Nat) (s : State), timerAdvance n (timerAdvance m s) = timerAdvance (m + n) s

/-! ### Interrupts -/

/-- The interrupt sources: numbers, vectors and fixed priority (R355); a request sets its bit of IF alone (R351); pending
is IE and IF together, bits 4 to 0 (R356), and the source taken is the lowest-numbered pending one. -/
def Obligations.InterruptSources : Prop :=
  (∀ n : Source, n.num = (match n with | .vblank => 0 | .lcdStat => 1 | .timer => 2 | .serial => 3 | .joypad => 4) ∧
    n.vector = (match n with
      | .vblank => 0x0040#16 | .lcdStat => 0x0048#16 | .timer => 0x0050#16 | .serial => 0x0058#16
      | .joypad => 0x0060#16)) ∧
  (∀ (n : Source) (s : State), requestInterrupt n s =
    { s with irq := { s.irq with request := s.irq.request ||| 1#8 <<< n.num } }) ∧
  (∀ (q : Irq) (n : Source), q.pending.getLsbD n.num = (q.enable.getLsbD n.num && q.request.getLsbD n.num)) ∧
  (∀ q : Irq, firstPending q.pending = none ↔ q.enable &&& q.request &&& 0x1F#8 = 0#8) ∧
  ∀ (q : Irq) (n : Source), firstPending q.pending = some n ↔
    (q.pending.getLsbD n.num = true ∧ ∀ m : Source, m.num < n.num → q.pending.getLsbD m.num = false)

/-- `CheckInterrupts` (R354) with the wake-up (R353): with nothing pending, nothing; a pending request wakes the CPU; with
IME set the lowest-numbered pending source is dispatched: IME and its IF bit cleared, PC pushed high byte first, PC at
the vector, `INT_DISPATCH_CYCLES` charged and fed to the peers. -/
def Obligations.InterruptDispatch : Prop :=
  ∀ s : State,
    let p := s.irq.enable &&& s.irq.request &&& 0x1F#8
    (p = 0#8 → serviceInterrupts s = s) ∧
    (p ≠ 0#8 → s.cpu.ime = false → serviceInterrupts s = { s with cpu := { s.cpu with halted := false } }) ∧
    (p ≠ 0#8 → s.cpu.ime = true → ∃ n : Nat, n ≤ 4 ∧ p.getLsbD n = true ∧ (∀ m, m < n → p.getLsbD m = false) ∧
      let u : Cpu := { s.cpu with halted := false, ime := false }
      let s1 : State := { s with
        cpu := { u with sp := s.cpu.sp - 1#16 }
        irq := { s.irq with request := s.irq.request &&& ~~~(1#8 <<< n) }
        charged := 0 }
      let s2 := memWrite (s.cpu.sp - 1#16) (hiByte s.cpu.pc) s1
      let s3 := memWrite (s.cpu.sp - 2#16) (loByte s.cpu.pc) { s2 with cpu := { u with sp := s.cpu.sp - 2#16 } }
      let s4 : State := { s3 with cpu := { u with sp := s.cpu.sp - 2#16, pc := 0x0040#16 + BitVec.ofNat 16 (8 * n) } }
      serviceInterrupts s =
        feedPeers { timerAdvance (s.par.intDispatchCycles - 8) s4 with charged := s.par.intDispatchCycles })

/-- Interrupt entry saves PC alone, on the stack, and keeps every other register; a return at once comes back to the
interrupted state of the CPU, with IME set (spec/60_exceptions.md section 2). A word pushed is the word popped, and a RET
comes back to the instruction after its CALL, with every register as before. The stack is in work RAM here and no
transfer blocks it. A handler starts with IME and the EI latch 0 and is not interrupted until it executes EI or RETI (R357): an
iteration from such a state ends in one, unless the instruction it executes is EI or RETI. With EI_DELAY = 1 this rests on the
model's inference that EI with IME 1 leaves the latch alone (log entry 19, `CpuOk`). -/
def Obligations.EntryCallAndReturn : Prop :=
  (∀ (n : Source) (s : State), Memory.wf s.mem = true → s.dma.active = false →
     0xC002 ≤ s.cpu.sp.toNat → s.cpu.sp.toNat ≤ 0xE000 →
     let t := takeInterrupt n s
     t.cpu = { s.cpu with ime := false, sp := s.cpu.sp - 2#16, pc := n.vector } ∧
     load (s.cpu.sp - 1#16).toNat t = hiByte s.cpu.pc ∧ load (s.cpu.sp - 2#16).toNat t = loByte s.cpu.pc ∧
     (returnFromInterrupt t).cpu = { s.cpu with ime := true, eiPending := false }) ∧
  (∀ s : State, Memory.wf s.mem = true → s.dma.active = false →
     0xC002 ≤ s.cpu.sp.toNat → s.cpu.sp.toNat ≤ 0xE000 →
     (∀ v : Word, (pop16 (push16 v s)).1 = v ∧ (pop16 (push16 v s)).2.cpu = s.cpu) ∧
     ∀ nn : Word, ∃ t u : State, exec (.call_nn nn) s = .next t ∧ t.cpu.pc = nn ∧
       exec .ret t = .next u ∧ u.cpu = s.cpu) ∧
  (∀ (n : Source) (s : State), CpuOk s.par s.cpu → s.cpu.ime = true →
     (takeInterrupt n s).cpu.ime = false ∧ (takeInterrupt n s).cpu.eiPending = false) ∧
  ∀ s t : State, s.cpu.ime = false → s.cpu.eiPending = false → iteration s = .next t →
    t.cpu.ime = true ∨ t.cpu.eiPending = true →
    s.cpu.halted = false ∧ ((fetchInstr { s with charged := 0 }).1 = .ei ∨ (fetchInstr { s with charged := 0 }).1 = .reti)

/-- The peers are advanced by exactly the charged cycles, which are then used up (R370): the PPU by as many ticks as there are
cycles (R401), on the memory the instruction left, the sound unit by as many (R451), the DMA engine by the count (R106), and
nothing else changes. A tick of the sound unit is the frame sequencer, then the four frequency timers, then the sampler. -/
def Obligations.PeersAreFed : Prop :=
  (∀ s : State,
    let x := iterate (ppuTick s.mem) s.charged (s.ppu, s.irq)
    feedPeers s = { s with
      ppu := x.1
      irq := x.2
      apu := iterate (Apu.tick s.par s.mem) s.charged s.apu
      dma := if s.dma.active then
          { s.dma with
            elapsed := s.dma.elapsed + s.charged
            active := decide (s.dma.elapsed + s.charged < s.par.dmaCycles) }
        else s.dma
      charged := 0 }) ∧
  ∀ (par : Params) (mem : Memory) (a : Apu),
    let b := a.tickSequencer
    Apu.tick par mem a = Apu.tickSampler par mem
      { b with pulse1 := b.pulse1.tick, pulse2 := b.pulse2.tick, wave := b.wave.tick, noise := b.noise.tick }

/-! ### The pixel pipeline -/

/-- One tick of the PPU (spec/61_ppu.md section 2): nothing with the LCD off; else the scanline counter counts down, and at
its end LY advances (153 wraps to 0), lines 1 to 143 are rasterized at that moment, line 144 requests VBlank and signals
the frame; and every tick with the LCD on ends with `UpdateMode`, then `UpdateCoincidence`. A tick leaves LCDC, the scroll,
window and palette registers, LYC, STAT bits 7 to 3, IE and the requests but VBlank and LCD STAT alone, and withdraws no
request. -/
def Obligations.PpuTick : Prop :=
  ∀ (mem : Memory) (p : Ppu) (q : Irq),
    let y := ppuTick mem (p, q)
    (p.lcdc.getLsbD 7 = false → y = (p, q)) ∧
    (p.lcdc.getLsbD 7 = true → 2 ≤ p.budget →
      y = updateCoincidence (updateMode ({ p with budget := p.budget - 1 }, q)) ∧
      y.1.budget = p.budget - 1 ∧ y.1.ly = p.ly ∧ y.1.fb = p.fb ∧
      y.1.code = p.code ∧ y.1.frameReady = p.frameReady ∧ y.2.request.getLsbD 0 = q.request.getLsbD 0) ∧
    (p.lcdc.getLsbD 7 = true → p.budget = 1 → p.ly.toNat ≤ 153 →
      let next := (p.ly.toNat + 1) % 154
      let drawn := decide (p.ly.toNat + 1 < 144)
      let counted : Ppu := { p with
        budget := 456
        ly := BitVec.ofNat 8 next
        fb := if drawn then p.fb.set next (p.pixelRow mem next) else p.fb
        code := if drawn then p.code.set next (p.codeRow mem next) else p.code
        frameReady := p.frameReady || decide (next = 144) }
      y = updateCoincidence (updateMode
        (counted, if next = 144 then { q with request := q.request ||| 0x01#8 } else q)) ∧
      y.1.budget = 456 ∧ y.1.ly.toNat = next ∧ y.1.fb = counted.fb ∧ y.1.code = counted.code ∧
      y.1.frameReady = (p.frameReady || decide (p.ly.toNat = 143)) ∧
      y.2.request.getLsbD 0 = (q.request.getLsbD 0 || decide (p.ly.toNat = 143))) ∧
    (p.lcdc.getLsbD 7 = true → y.1.prevCoin = decide (y.1.ly = p.lyc) ∧ y.1.stat.getLsbD 2 = y.1.prevCoin) ∧
    (y.1.lcdc = p.lcdc ∧ y.1.scy = p.scy ∧ y.1.scx = p.scx ∧ y.1.lyc = p.lyc ∧ y.1.bgp = p.bgp ∧ y.1.obp0 = p.obp0 ∧
      y.1.obp1 = p.obp1 ∧ y.1.wy = p.wy ∧ y.1.wx = p.wx ∧ y.1.stat &&& 0xF8#8 = p.stat &&& 0xF8#8 ∧
      y.2.enable = q.enable ∧ ∀ k : Nat, (2 ≤ k → y.2.request.getLsbD k = q.request.getLsbD k) ∧
        (q.request.getLsbD k = true → y.2.request.getLsbD k = true))

/-- `UpdateMode` (R403) and `UpdateCoincidence` (R404): STAT bits 1:0 become the mode of the position in the line, STAT
bit 2 the coincidence, the other bits keep their values, and IF bit 1 is requested exactly on an enabled transition. -/
def Obligations.StatUpdates : Prop :=
  ∀ (p : Ppu) (q : Irq),
    let pos := 456 - p.budget
    let m := if 144 ≤ p.ly.toNat then 1 else if pos < 80 then 2 else if pos < 252 then 3 else 0
    let y := updateMode (p, q)
    let coin := decide (p.ly = p.lyc)
    let z := updateCoincidence (p, q)
    (y.1 = { p with stat := y.1.stat } ∧ y.1.stat.toNat % 4 = m ∧ y.1.stat &&& 0xFC#8 = p.stat &&& 0xFC#8 ∧
      y.2 = if m ≠ p.stat.toNat % 4 ∧ ((m = 0 ∧ p.stat.getLsbD 3 = true) ∨ (m = 1 ∧ p.stat.getLsbD 4 = true) ∨
          (m = 2 ∧ p.stat.getLsbD 5 = true)) then { q with request := q.request ||| 0x02#8 } else q) ∧
    (z.1 = { p with stat := z.1.stat, prevCoin := coin } ∧ z.1.stat.getLsbD 2 = coin ∧
      z.1.stat &&& 0xFB#8 = p.stat &&& 0xFB#8 ∧
      z.2 = if coin = true ∧ p.prevCoin = false ∧ p.stat.getLsbD 6 = true then
          { q with request := q.request ||| 0x02#8 } else q)

/-- With the LCD on, a line takes its 456 cycles and a frame 70224: after as many ticks as the counter holds LY has
advanced by one, modulo 154, and after a frame LY and the counter are where they were (spec/61_ppu.md section 1). -/
def Obligations.LinesAndFramesTakeTheirTime : Prop :=
  ∀ (mem : Memory) (p : Ppu) (q : Irq), PpuOk p → p.lcdc.getLsbD 7 = true →
    (∀ k : Nat, k < p.budget → (iterate (ppuTick mem) k (p, q)).1.budget = p.budget - k ∧
      (iterate (ppuTick mem) k (p, q)).1.ly = p.ly) ∧
    (iterate (ppuTick mem) p.budget (p, q)).1.budget = 456 ∧
    (iterate (ppuTick mem) p.budget (p, q)).1.ly.toNat = (p.ly.toNat + 1) % 154 ∧
    (iterate (ppuTick mem) 70224 (p, q)).1.budget = p.budget ∧ (iterate (ppuTick mem) 70224 (p, q)).1.ly = p.ly

/-- Row 0 of the framebuffer is never rasterized: no step changes it (spec/61_ppu.md section 2). -/
def Obligations.RowZeroIsNeverDrawn : Prop :=
  ∀ s t : State, Inv s → step s = .next t → t.ppu.fb[0]? = s.ppu.fb[0]? ∧ t.ppu.code[0]? = s.ppu.code[0]?

/-- The pixels of a tile line (R412), shades and the grayscale ramp (R413), tile addresses (R411). Rasterizing a line fills the
line with the background or window code of each pixel (R410), and its shade under the sprites of OAM (R420), all 40 drawn in
ascending order if LCDC bit 1 is set (R421), and changes no other line. -/
def Obligations.PixelsAndLines : Prop :=
  ((∀ t : Byte, tileAddr true t = 0x8000 + 16 * t.toNat ∧
     (t.toNat < 0x80 → tileAddr false t = 0x9000 + 16 * t.toNat) ∧
     (0x80 ≤ t.toNat → tileAddr false t = 0x9000 - 16 * (0x100 - t.toNat))) ∧
   (∀ (lo hi : Byte) (k : Nat), k ≤ 7 →
     (tilePixel lo hi k).toNat = 2 * (hi.toNat / 2 ^ (7 - k) % 2) + lo.toNat / 2 ^ (7 - k) % 2) ∧
   (∀ (p : Byte) (c : BitVec 2), shade p c = p.toNat / 4 ^ c.toNat % 4) ∧
   ramp 0 = ⟨245#8, 245#8, 245#8⟩ ∧ ramp 1 = ⟨211#8, 211#8, 211#8⟩ ∧ ramp 2 = ⟨169#8, 169#8, 169#8⟩ ∧
   ramp 3 = ⟨0#8, 0#8, 0#8⟩) ∧
  (∀ (mem : Memory) (p : Ppu) (ly x : Nat), PpuOk p → ly < 144 → x < 160 →
     let window := p.lcdc.getLsbD 5 = true ∧ p.wy.toNat ≤ ly ∧ p.wx.toNat ≤ x + 7
     let px := if window then x + 7 - p.wx.toNat else (x + p.scx.toNat) % 256
     let py := if window then ly - p.wy.toNat else (ly + p.scy.toNat) % 256
     let map := if (if window then p.lcdc.getLsbD 6 else p.lcdc.getLsbD 3) then 0x9C00 else 0x9800
     let t := Memory.read mem (map + 32 * (py / 8) + px / 8)
     let base := tileAddr (p.lcdc.getLsbD 4) t + 2 * (py % 8)
     let c := if p.lcdc.getLsbD 0 then tilePixel (Memory.read mem base) (Memory.read mem (base + 1)) (px % 8) else 0#2
     let height := if p.lcdc.getLsbD 2 then 16 else 8
     let draw : Rgb → Nat → Rgb := fun under i =>
       let top := (Memory.read mem (0xFE00 + 4 * i)).toNat
       let left := (Memory.read mem (0xFE01 + 4 * i)).toNat
       let tile := (Memory.read mem (0xFE02 + 4 * i)).toNat
       let attr := Memory.read mem (0xFE03 + 4 * i)
       if top ≤ ly + 16 ∧ ly + 16 < top + height ∧ left ≤ x + 8 ∧ x + 8 < left + 8 then
         let line := ly + 16 - top
         let row := if attr.getLsbD 6 then height - 1 - line else line
         let column := x + 8 - left
         let addr := 0x8000 + 16 * (if p.lcdc.getLsbD 2 then tile / 2 * 2 else tile) + 2 * row
         let o := tilePixel (Memory.read mem addr) (Memory.read mem (addr + 1))
           (if attr.getLsbD 5 then 7 - column else column)
         if o = 0#2 ∨ (attr.getLsbD 7 = true ∧ c ≠ 0#2) then under
         else ramp (shade (if attr.getLsbD 4 then p.obp1 else p.obp0) o)
       else under
     let ground := if p.lcdc.getLsbD 0 then ramp (shade p.bgp c) else ramp 0
     let r := p.rasterize mem ly
     (r.code[ly]?.bind fun row => row[x]?) = some c ∧
     (r.fb[ly]?.bind fun row => row[x]?) =
       some (if p.lcdc.getLsbD 1 then (List.range 40).foldl draw ground else ground) ∧
     ∀ k : Nat, k ≠ ly → r.fb[k]? = p.fb[k]? ∧ r.code[k]? = p.code[k]?)

/-! ### The sound pipeline -/

/-- The frequency timers (R452, R453, R454): a timer that holds P ≥ 1 steps its pointer after P ticks, one that holds 0 at
the first, and is reloaded from the frequency; the noise register takes one LFSR step. -/
def Obligations.FrequencyTimers : Prop :=
  (∀ c : Pulse, iterate Pulse.tick (max c.timer 1) c =
      { c with timer := (2048 - (c.nr4.toNat % 8 * 256 + c.nr3.toNat)) * 4, duty := (c.duty + 1) % 8 } ∧
    ∀ k, k < c.timer → iterate Pulse.tick k c = { c with timer := c.timer - k }) ∧
  (∀ c : Wave, iterate Wave.tick (max c.timer 1) c =
      { c with timer := (2048 - (c.nr34.toNat % 8 * 256 + c.nr33.toNat)) * 2, pos := (c.pos + 1) % 32 } ∧
    ∀ k, k < c.timer → iterate Wave.tick k c = { c with timer := c.timer - k }) ∧
  (∀ c : Noise,
    let code := c.nr43.toNat % 8
    iterate Noise.tick (max c.timer 1) c =
      { c with
        timer := (if code = 0 then 8 else 16 * code) * 2 ^ (c.nr43.toNat / 16)
        lfsr := lfsrStep (c.nr43.getLsbD 3) c.lfsr } ∧
    ∀ k, k < c.timer → iterate Noise.tick k c = { c with timer := c.timer - k }) ∧
  ∀ (narrow : Bool) (x : BitVec 15) (k : Nat), k < 15 → (lfsrStep narrow x).getLsbD k =
    if k = 14 ∨ (narrow = true ∧ k = 6) then x.getLsbD 0 ^^ x.getLsbD 1 else x.getLsbD (k + 1)

/-- The frame sequencer (R460): the counter counts 8192 ticks, then the event of the current step runs and the step advances;
steps 0, 2, 4, 6 tick length, 2 and 6 then sweep, 7 the envelope. Length (R461), envelope (R462) and sweep (R463) ticks. -/
def Obligations.SequencerAndItsTicks : Prop :=
  ((∀ a : Apu, a.seq.counter < 8192 →
     iterate Apu.tickSequencer (8192 - a.seq.counter) a =
       { Apu.fsEvent a.seq.step a with seq := { counter := 0, step := (a.seq.step + 1) % 8 } } ∧
     ∀ k, k < 8192 - a.seq.counter →
       iterate Apu.tickSequencer k a = { a with seq := { a.seq with counter := a.seq.counter + k } }) ∧
   ∀ a : Apu, Apu.fsEvent 0 a = a.lengthTick ∧ Apu.fsEvent 1 a = a ∧ Apu.fsEvent 2 a = a.lengthTick.sweepTick ∧
     Apu.fsEvent 3 a = a ∧ Apu.fsEvent 4 a = a.lengthTick ∧ Apu.fsEvent 5 a = a ∧
     Apu.fsEvent 6 a = a.lengthTick.sweepTick ∧ Apu.fsEvent 7 a = a.envelopeTick) ∧
  ((∀ (nr4 : Byte) (n : Nat) (on : Bool), lengthTick nr4 n on =
     if nr4.getLsbD 6 = true ∧ 0 < n then (n - 1, on && decide (n - 1 ≠ 0)) else (n, on)) ∧
   (∀ a : Apu, a.lengthTick = { a with
     pulse1 := { a.pulse1 with
       length := (lengthTick a.pulse1.nr4 a.pulse1.length a.pulse1.on).1
       on := (lengthTick a.pulse1.nr4 a.pulse1.length a.pulse1.on).2 }
     pulse2 := { a.pulse2 with
       length := (lengthTick a.pulse2.nr4 a.pulse2.length a.pulse2.on).1
       on := (lengthTick a.pulse2.nr4 a.pulse2.length a.pulse2.on).2 }
     wave := { a.wave with
       length := (lengthTick a.wave.nr34 a.wave.length a.wave.on).1
       on := (lengthTick a.wave.nr34 a.wave.length a.wave.on).2 }
     noise := { a.noise with
       length := (lengthTick a.noise.nr44 a.noise.length a.noise.on).1
       on := (lengthTick a.noise.nr44 a.noise.length a.noise.on).2 } }) ∧
   (∀ (nr2 : Byte) (timer vol : Nat), envelopeTick nr2 timer vol =
     let period := nr2.toNat % 8
     if period = 0 then (timer, vol)
     else if 1 < timer then (timer - 1, vol)
     else (period, if nr2.getLsbD 3 then (if vol < 15 then vol + 1 else vol) else (if 0 < vol then vol - 1 else vol))) ∧
   (∀ a : Apu, a.envelopeTick = { a with
     pulse1 := { a.pulse1 with
       env := (envelopeTick a.pulse1.nr2 a.pulse1.env a.pulse1.vol).1
       vol := (envelopeTick a.pulse1.nr2 a.pulse1.env a.pulse1.vol).2 }
     pulse2 := { a.pulse2 with
       env := (envelopeTick a.pulse2.nr2 a.pulse2.env a.pulse2.vol).1
       vol := (envelopeTick a.pulse2.nr2 a.pulse2.env a.pulse2.vol).2 }
     noise := { a.noise with
       env := (envelopeTick a.noise.nr42 a.noise.env a.noise.vol).1
       vol := (envelopeTick a.noise.nr42 a.noise.env a.noise.vol).2 } }) ∧
   ∀ a : Apu,
     let period := a.sweep.nr10.toNat / 16 % 8
     let shift := a.sweep.nr10.toNat % 8
     let swept : Nat → Nat := fun shadow =>
       if a.sweep.nr10.getLsbD 3 then shadow - shadow / 2 ^ shift else shadow + shadow / 2 ^ shift
     let nf := swept a.sweep.shadow
     let w : Sweep := { a.sweep with timer := if period ≠ 0 then period else 8 }
     a.sweepTick =
       if 1 < a.sweep.timer then { a with sweep := { a.sweep with timer := a.sweep.timer - 1 } }
       else if a.sweep.enabled = true ∧ period ≠ 0 then
         if 2047 < nf then { a with sweep := w, pulse1 := { a.pulse1 with on := false } }
         else if shift ≠ 0 then
           { a with
             sweep := { w with shadow := nf }
             pulse1 := { a.pulse1 with
               nr3 := BitVec.ofNat 8 (nf % 256)
               nr4 := (a.pulse1.nr4 &&& 0xF8#8) ||| BitVec.ofNat 8 (nf / 256 % 8)
               on := a.pulse1.on && !decide (2047 < swept nf) } }
         else { a with sweep := w }
       else { a with sweep := w })

/-- `Trigger` (R458), the length loads and the other side effects (R457), through CPU writes of the sound registers outside
a transfer, which change nothing but the sound unit. -/
def Obligations.SoundRegisterWrites : Prop :=
  ∀ (v : Byte) (s : State), s.dma.active = false →
    (cpuWrite 0xFF11#16 v s).apu =
      { s.apu with pulse1 := { s.apu.pulse1 with nr1 := v, length := 64 - v.toNat % 64 } } ∧
    (cpuWrite 0xFF14#16 v s).apu =
      (if v.getLsbD 7 then
        let f := v.toNat % 8 * 256 + s.apu.pulse1.nr3.toNat
        let period := s.apu.sweep.nr10.toNat / 16 % 8
        let shift := s.apu.sweep.nr10.toNat % 8
        let swept := if s.apu.sweep.nr10.getLsbD 3 then f - f / 2 ^ shift else f + f / 2 ^ shift
        { s.apu with
          pulse1 := { s.apu.pulse1 with
            nr4 := v
            on := decide (shift = 0 ∨ swept ≤ 2047)
            length := if s.apu.pulse1.length = 0 then 64 else s.apu.pulse1.length
            timer := (2048 - f) * 4
            env := s.apu.pulse1.nr2.toNat % 8
            vol := s.apu.pulse1.nr2.toNat / 16 }
          sweep := { s.apu.sweep with
            shadow := f
            timer := if period ≠ 0 then period else 8
            enabled := decide (period ≠ 0 ∨ shift ≠ 0) } }
      else { s.apu with pulse1 := { s.apu.pulse1 with nr4 := v } }) ∧
    (cpuWrite 0xFF16#16 v s).apu =
      { s.apu with pulse2 := { s.apu.pulse2 with nr1 := v, length := 64 - v.toNat % 64 } } ∧
    (cpuWrite 0xFF1B#16 v s).apu = { s.apu with wave := { s.apu.wave with nr31 := v, length := 256 - v.toNat } } ∧
    (cpuWrite 0xFF20#16 v s).apu = { s.apu with noise := { s.apu.noise with nr41 := v, length := 64 - v.toNat % 64 } } ∧
    (cpuWrite 0xFF1A#16 v s).apu = { s.apu with wave := { s.apu.wave with
      nr30 := v, on := s.apu.wave.on && v.getLsbD 7 } } ∧
    (cpuWrite 0xFF19#16 v s).apu = { s.apu with pulse2 :=
      (if v.getLsbD 7 then { s.apu.pulse2 with
        nr4 := v
        on := true
        length := if s.apu.pulse2.length = 0 then 64 else s.apu.pulse2.length
        timer := (2048 - (v.toNat % 8 * 256 + s.apu.pulse2.nr3.toNat)) * 4
        env := s.apu.pulse2.nr2.toNat % 8
        vol := s.apu.pulse2.nr2.toNat / 16 }
      else { s.apu.pulse2 with nr4 := v }) } ∧
    (cpuWrite 0xFF1E#16 v s).apu = { s.apu with wave :=
      (if v.getLsbD 7 then { s.apu.wave with
        nr34 := v
        on := true
        length := if s.apu.wave.length = 0 then 256 else s.apu.wave.length
        timer := (2048 - (v.toNat % 8 * 256 + s.apu.wave.nr33.toNat)) * 2
        pos := 0 }
      else { s.apu.wave with nr34 := v }) } ∧
    (cpuWrite 0xFF23#16 v s).apu = { s.apu with noise :=
      (if v.getLsbD 7 then { s.apu.noise with
        nr44 := v
        on := true
        length := if s.apu.noise.length = 0 then 64 else s.apu.noise.length
        timer := s.apu.noise.period
        env := s.apu.noise.nr42.toNat % 8
        vol := s.apu.noise.nr42.toNat / 16
        lfsr := 0x7FFF#15 }
      else { s.apu.noise with nr44 := v }) } ∧
    (cpuWrite 0xFF26#16 v s).apu =
      (if v.getLsbD 7 then { s.apu with nr52 := 0x80#8 }
      else { s.apu with
        nr52 := 0x00#8
        pulse1 := { s.apu.pulse1 with on := false }
        pulse2 := { s.apu.pulse2 with on := false }
        wave := { s.apu.wave with on := false }
        noise := { s.apu.noise with on := false } }) ∧
    ∀ a ∈ [0xFF11#16, 0xFF14#16, 0xFF16#16, 0xFF19#16, 0xFF1A#16, 0xFF1B#16, 0xFF1E#16, 0xFF20#16, 0xFF23#16, 0xFF26#16],
      cpuWrite a v s = { s with apu := (cpuWrite a v s).apu }

/-- The document's length property (spec/62_apu.md section 6): a zero length field loads the maximum, and with the length
enabled the channel goes off on exactly the maximum-th length tick: 64 ticks for the pulse channels and for noise, 256 for
wave. -/
def Obligations.LengthCounterTurnsOff : Prop :=
  (∀ c : Pulse, c.nr4.getLsbD 6 = true → c.on = true →
    let d := c.write1 0x00#8
    (∀ k, k < 64 → (iterate Pulse.lengthTick k d).on = true ∧ (iterate Pulse.lengthTick k d).length = 64 - k) ∧
    (iterate Pulse.lengthTick 64 d).on = false) ∧
  (∀ c : Noise, c.nr44.getLsbD 6 = true → c.on = true →
    let d := c.write41 0x00#8
    (∀ k, k < 64 → (iterate Noise.lengthTick k d).on = true ∧ (iterate Noise.lengthTick k d).length = 64 - k) ∧
    (iterate Noise.lengthTick 64 d).on = false) ∧
  ∀ c : Wave, c.nr34.getLsbD 6 = true → c.on = true →
    let d := c.write31 0x00#8
    (∀ k, k < 256 → (iterate Wave.lengthTick k d).on = true ∧ (iterate Wave.lengthTick k d).length = 256 - k) ∧
    (iterate Wave.lengthTick 256 d).on = false

/-- `Mix` (R471) of the amplitudes (R455): the sum of the amplitudes NR51 routes to a side, scaled by the side's volume, at
most 60; silence with the master bit clear. The output sampler (R470): one sample pair every `SAMPLE_PERIOD` ticks, a full
buffer handed over at once; 95 cycles by default. -/
def Obligations.MixerAndSampler : Prop :=
  (∀ (par : Params) (mem : Memory) (a : Apu), ApuOk par a →
     let duty : Nat → Nat → Nat := fun d k =>
       ([[0, 0, 0, 0, 0, 0, 0, 1], [1, 0, 0, 0, 0, 0, 0, 1], [1, 0, 0, 0, 0, 1, 1, 1], [0, 1, 1, 1, 1, 1, 1, 0]].getD d []).getD k 0
     let sample := (Memory.read mem (0xFF30 + a.wave.pos / 2)).toNat
     let amp1 := if a.pulse1.on then duty (a.pulse1.nr1.toNat / 64) a.pulse1.duty * a.pulse1.vol else 0
     let amp2 := if a.pulse2.on then duty (a.pulse2.nr1.toNat / 64) a.pulse2.duty * a.pulse2.vol else 0
     let amp3 := if a.wave.on = true ∧ a.wave.nr30.getLsbD 7 = true then
         (if a.wave.pos % 2 = 0 then sample / 16 else sample % 16) / 2 ^ ([4, 0, 1, 2].getD (a.wave.nr32.toNat / 32 % 4) 0)
       else 0
     let amp4 := if a.noise.on = true ∧ a.noise.lfsr.getLsbD 0 = false then a.noise.vol else 0
     let side : Nat → Nat := fun i => amp1 * (a.nr51.toNat / 2 ^ i % 2) + amp2 * (a.nr51.toNat / 2 ^ (i + 1) % 2) +
       amp3 * (a.nr51.toNat / 2 ^ (i + 2) % 2) + amp4 * (a.nr51.toNat / 2 ^ (i + 3) % 2)
     let out := a.mix mem
     (a.nr52.getLsbD 7 = false → out = (0#8, 0#8)) ∧
     (a.nr52.getLsbD 7 = true → out.1.toNat = side 4 * (a.nr50.toNat / 16 % 8 + 1) / 8 ∧
       out.2.toNat = side 0 * (a.nr50.toNat % 8 + 1) / 8) ∧
     out.1.toNat ≤ 60 ∧ out.2.toNat ≤ 60) ∧
  ((∀ (par : Params) (mem : Memory) (a : Apu), a.tickSampler par mem =
     let buf := a.sampler.buf ++ [a.mix mem]
     if a.sampler.acc + 1 = par.clockHz / par.sampleRate then
       { a with sampler := if buf.length = par.audioBufSamples then
           { acc := 0, buf := [], out := a.sampler.out ++ [buf] }
         else { acc := 0, buf := buf, out := a.sampler.out } }
     else { a with sampler := { a.sampler with acc := a.sampler.acc + 1 } }) ∧
   Params.default.clockHz / Params.default.sampleRate = 95)

/-! ### The host -/

/-- `SetJoypad(j)` (R381): the new byte, and a Joypad request exactly when a button of a selected half goes from released to
pressed. The host's actions (R380) and what they return (R382, R385): what each changes, that `Stop` is final, and that a
paused machine changes by host actions alone. That the actions to come are a list in the state is the model's choice (log
entry 5); that a step of a stopped machine, or of a paused one with no action to come, answers the same state is the model's
inference from R380 (log entry 11). -/
def Obligations.JoypadAndHostActions : Prop :=
  (∀ (j : Byte) (s : State),
     let low : Byte → Byte := fun joy => 0x0F#8 &&& (if s.p1.getLsbD 4 then 0x0F#8 else joy >>> 4) &&&
       (if s.p1.getLsbD 5 then 0x0F#8 else joy &&& 0x0F#8)
     setJoypad j s = { s with
       port := { s.port with joy := j }
       irq := { s.irq with request :=
         (if low s.port.joy &&& ~~~(low j) &&& 0x0F#8 ≠ 0#8 then s.irq.request ||| 0x10#8 else s.irq.request) } }) ∧
  ((∀ s : State, s.port.runState ≠ .stopRequested →
     (∀ j, hostAction s (.setJoypad j) = setJoypad j s) ∧
     hostAction s .pause = (if s.port.runState = .running then { s with port := { s.port with runState := .paused } } else s) ∧
     hostAction s .resume = (if s.port.runState = .paused then { s with port := { s.port with runState := .running } } else s) ∧
     hostAction s .stop = { s with port := { s.port with runState := .stopRequested } } ∧
     hostAction s .takeFrame = { s with ppu := { s.ppu with frameReady := false } } ∧
     (s.ppu.frameReady = true → hostReply s .takeFrame = .frame s.ppu.fb) ∧
     hostAction s .takeAudio = { s with apu := { s.apu with sampler := { s.apu.sampler with out := [] } } } ∧
     hostReply s .takeAudio = .audio s.apu.sampler.out ∧
     hostAction s .takeSerial = s ∧ hostReply s .takeSerial = .serial s.port.serialOut ∧
     ∀ a, hostAction s (.debugPeek a) = s ∧ hostReply s (.debugPeek a) = .byte (debugPeek a s)) ∧
   (∀ s : State, s.port.runState = .stopRequested → step s = .next s ∧ ∀ act, hostAction s act = s) ∧
   ∀ s : State, s.port.runState = .paused → s.port.script = [] → step s = .next s)

/-! ### Reset -/

/-- The skip-boot reset (R70): the six quoted values, interrupts off, not halted, no overlay, and the skip-boot value of every
I/O register (the "Reset" clauses of R31 to R46, R500 step 5). The cold reset (R71): PC at 0, every CPU register and I/O
register 0, the overlay on. After both, every byte of the images is 0, the controller is in its initial state (R72), and the
internal state of the units is that of R500 step 6 and R450; the parameters and images are those the machine was given, and
the header's results those of `parseHeader`. (`charged` and the script are the model's own fields, log entries 3 and 5.) -/
def Obligations.Resets : Prop :=
  let both : Params → Cart → List (List HostAction) → State → Prop := fun par cart script s =>
    ((∀ a, Memory.read s.mem a = 0#8) ∧ (∀ a, Memory.read s.xram a = 0#8) ∧
      s.cpu.ime = false ∧ s.cpu.halted = false ∧ s.cpu.haltBug = false ∧ s.cpu.eiPending = false ∧
      s.mbc.romBank = 1 ∧ s.mbc.ramBank = 0 ∧ s.mbc.ramEnabled = false ∧ s.mbc.bankMode = .romBanking ∧
      parseHeader cart = .ok s.mbc.header ∧ s.par = par ∧ s.cart = cart ∧ s.irq.enable = 0#8) ∧
    (s.timer.timaAcc = 0 ∧ s.dma.active = false ∧ s.dma.elapsed = 0 ∧ s.ppu.budget = 456 ∧ s.ppu.frameReady = false ∧
      s.ppu.fb = List.replicate 144 (List.replicate 160 ⟨245#8, 245#8, 245#8⟩) ∧
      s.ppu.code = List.replicate 144 (List.replicate 160 0#2)) ∧
    ((∀ c ∈ [s.apu.pulse1, s.apu.pulse2],
        c.on = false ∧ c.timer = 0 ∧ c.duty = 0 ∧ c.length = 0 ∧ c.env = 0 ∧ c.vol = 0) ∧
      (s.apu.wave.on = false ∧ s.apu.wave.timer = 0 ∧ s.apu.wave.pos = 0 ∧ s.apu.wave.length = 0) ∧
      (s.apu.noise.on = false ∧ s.apu.noise.timer = 0 ∧ s.apu.noise.lfsr = 0x7FFF#15 ∧ s.apu.noise.length = 0 ∧
        s.apu.noise.env = 0 ∧ s.apu.noise.vol = 0) ∧
      (s.apu.sweep.timer = 0 ∧ s.apu.sweep.shadow = 0 ∧ s.apu.sweep.enabled = false) ∧
      s.apu.seq = { counter := 0, step := 0 } ∧ s.apu.sampler = { acc := 0, buf := [], out := [] }) ∧
    s.port = { joy := 0xFF#8, serialOut := [], runState := .running, script := script } ∧ s.charged = 0
  (∀ (par : Params) (cart : Cart) (rom : Option Memory) (script : List (List HostAction)) (s : State),
     construct par cart rom true script = .ok s →
     let skipBoot : List (Nat × Byte) :=
       [(0xFF02, 0x7E#8), (0xFF04, 0xAB#8), (0xFF07, 0xF8#8), (0xFF0F, 0x01#8),
        (0xFF10, 0x80#8), (0xFF11, 0xBF#8), (0xFF12, 0xF3#8), (0xFF13, 0xFF#8), (0xFF14, 0xBF#8), (0xFF16, 0x3F#8),
        (0xFF18, 0xFF#8), (0xFF19, 0xBF#8), (0xFF1A, 0x7F#8), (0xFF1B, 0xFF#8), (0xFF1C, 0x9F#8), (0xFF1D, 0xFF#8),
        (0xFF1E, 0xBF#8), (0xFF20, 0xFF#8), (0xFF23, 0xBF#8), (0xFF24, 0x77#8), (0xFF25, 0xF3#8), (0xFF26, 0x80#8),
        (0xFF40, 0x91#8), (0xFF41, 0x85#8), (0xFF46, 0xFF#8), (0xFF47, 0xFC#8), (0xFF48, 0xFF#8), (0xFF49, 0xFF#8)]
     s.cpu.af = par.afReset ∧ s.cpu.bc = 0x0013#16 ∧ s.cpu.de = 0x00D8#16 ∧ s.cpu.hl = 0x014D#16 ∧
     s.cpu.pc = 0x0100#16 ∧ s.cpu.sp = 0xFFFE#16 ∧ s.bootOverlay = false ∧
     (∀ a : Nat, 0xFF00 ≤ a → a ≤ 0xFF7F → load a s = (skipBoot.lookup a).getD 0#8) ∧
     s.timer.divCounter = 0xABCC#16 ∧ s.ppu.prevCoin = true ∧ both par cart script s) ∧
  (∀ (par : Params) (cart : Cart) (rom : Memory) (script : List (List HostAction)) (s : State),
     construct par cart (some rom) false script = .ok s →
     s.cpu.pc = 0x0000#16 ∧ s.cpu.af = 0x0000#16 ∧ s.cpu.bc = 0x0000#16 ∧ s.cpu.de = 0x0000#16 ∧
     s.cpu.hl = 0x0000#16 ∧ s.cpu.sp = 0x0000#16 ∧ s.bootOverlay = true ∧ s.bootRom = rom ∧
     (∀ a : Nat, 0xFF00 ≤ a → a ≤ 0xFF7F → load a s = 0#8) ∧
     s.timer.divCounter = 0x0000#16 ∧ s.ppu.prevCoin = false ∧ both par cart script s)

/-- The header (R100, with the length limit of R500): the bank counts are those of the tables exactly for an image of 0x150
to 0x200000 bytes whose codes are in the tables, and a machine exists exactly then, if a cold reset has a boot ROM. An MBC2
ignores the RAM size code: that an image of it is accepted whatever the code, against the last line of the table, and that its
bank count is then 0, which no rule reads, is the model's inference (log entry 20). -/
def Obligations.HeaderParsing : Prop :=
  (∀ cart : Cart,
     let t := (romByte cart 0x147).toNat
     let sz := (romByte cart 0x148).toNat
     let rm := (romByte cart 0x149).toNat
     (∀ hd : Header, parseHeader cart = .ok hd ↔
       (0x150 ≤ cart.len ∧ cart.len ≤ 0x200000 ∧ sz ≤ 6 ∧ (rm ≤ 5 ∨ hd.mbcType = .mbc2) ∧
         ((hd.mbcType = .romOnly ∧ t = 0x00) ∨ (hd.mbcType = .mbc1 ∧ 0x01 ≤ t ∧ t ≤ 0x03) ∨
           (hd.mbcType = .mbc2 ∧ 0x05 ≤ t ∧ t ≤ 0x06) ∨
           (hd.mbcType = .mbc35 ∧ ((0x0F ≤ t ∧ t ≤ 0x13) ∨ (0x19 ≤ t ∧ t ≤ 0x1E)))) ∧
         hd.romBanks = 2 * 2 ^ sz ∧
         hd.ramBanks = if hd.mbcType = .mbc2 then 0 else [0, 1, 1, 4, 16, 8].getD rm 0))) ∧
  (∀ (par : Params) (cart : Cart) (rom : Option Memory) (skip : Bool) (script : List (List HostAction)),
    (∃ s : State, construct par cart rom skip script = .ok s) ↔
      (∃ hd : Header, parseHeader cart = .ok hd) ∧ (skip = true ∨ rom ≠ none))

/-! ### The invariant -/

/-- The reset state meets the invariant. -/
def Obligations.ResetMeetsInvariant : Prop := Inv State.reset

/-- So does every machine that can be constructed from well-formed parameters, cold or skip-boot. -/
def Obligations.ConstructedMachinesMeetInvariant : Prop :=
  ∀ (par : Params) (cart : Cart) (rom : Option Memory) (skip : Bool) (script : List (List HostAction)) (s : State),
    par.wellFormed = true → construct par cart rom skip script = .ok s → Inv s

/-- Every step keeps the invariant: the flag register's low bits and IF's high bits stay 0, the EI latch is set only while IME
is 0, the bank indices stay reduced, LY and the counters stay in their ranges, the images stay in canonical form. The clause on
the EI latch (`CpuOk.waiting`) holds by the model's inference that EI with IME already 1 leaves the latch alone, as the corner
case of R334 says and its Operation does not (log entry 19). -/
def Obligations.StepKeepsInvariant : Prop := ∀ s t : State, Inv s → step s = .next t → Inv t
end

