-- ==== Sys2Proof/Laws/Bits.lean ====
section
/-! SUPPORT. The two bytes of a word: taking apart and putting together. -/

namespace Sys2Proof.Machine

/-- The two bytes of a word, put together again. -/
@[simp] theorem cat_halves (v : Word) : cat (hiByte v) (loByte v) = v := by
  apply BitVec.eq_of_getLsbD_eq
  intro i hi
  show (v.extractLsb' 8 8 ++ v.extractLsb' 0 8).getLsbD i = _
  rw [BitVec.getLsbD_append]
  simp only [BitVec.getLsbD_extractLsb']
  by_cases h : i < 8
  · simp [h]
  · simp [h, show 8 + (i - 8) = i by omega, show i - 8 < 8 by omega]

/-- The high byte of a word put together from two. -/
@[simp] theorem hiByte_cat (x y : Byte) : hiByte (cat x y) = x := by
  apply BitVec.eq_of_getLsbD_eq
  intro i hi
  show ((x ++ y).extractLsb' 8 8).getLsbD i = x.getLsbD i
  rw [BitVec.getLsbD_extractLsb', BitVec.getLsbD_append]
  simp [hi]

/-- The low byte of a word put together from two. -/
@[simp] theorem loByte_cat (x y : Byte) : loByte (cat x y) = y := by
  apply BitVec.eq_of_getLsbD_eq
  intro i hi
  show ((x ++ y).extractLsb' 0 8).getLsbD i = y.getLsbD i
  rw [BitVec.getLsbD_extractLsb', BitVec.getLsbD_append]
  simp [hi]

end Sys2Proof.Machine
end

