-- ==== Sys2Proof/Laws/Memory.lean ====
section
/-! SUPPORT. The laws of a stored image: a read after a write, and the canonical form is kept. -/

namespace Sys2Proof.Machine

theorem Memory.read_write_same (m : Memory) (a : Nat) (v : Byte) (h : Memory.wf m = true) :
    Memory.read (Memory.write m a v) a = v := by
  suffices H : ∀ (m : Memory) (lo : Nat), Memory.wfFrom lo m = true → Memory.read (Memory.write m a v) a = v from H m 0 h
  intro m
  induction m with
  | nil => intro lo _; by_cases hv : v = Memory.unlisted <;> simp [Memory.write, Memory.read, hv]
  | cons c m ih =>
    intro lo hm
    obtain ⟨k, w⟩ := c
    simp only [Memory.wfFrom, Bool.and_eq_true, decide_eq_true_eq] at hm
    have below : ∀ (m : Memory) (lo : Nat), Memory.wfFrom lo m = true → a < lo → Memory.read m a = Memory.unlisted := by
      intro m
      induction m with
      | nil => intros; rfl
      | cons d m ih2 =>
        intro lo h1 h2
        simp only [Memory.wfFrom, Bool.and_eq_true, decide_eq_true_eq] at h1
        have : d.1 ≠ a := by omega
        simp only [Memory.read, this, if_false]
        exact ih2 _ h1.2 (by omega)
    unfold Memory.write
    split
    · rename_i hlt
      split
      · rename_i hv
        have : k ≠ a := by omega
        simp only [Memory.read, this, if_false, hv]
        exact below m _ hm.2 (by omega)
      · simp [Memory.read]
    · split
      · rename_i hk
        split
        · rename_i hv
          rw [hv]; exact below m _ hm.2 (by omega)
        · simp [Memory.read, hk]
      · rename_i h1 h2
        have : k ≠ a := fun h => h2 h.symm
        simp only [Memory.read, this, if_false]
        exact ih _ hm.2

theorem Memory.read_write_other (m : Memory) (a b : Nat) (v : Byte) (hab : b ≠ a) :
    Memory.read (Memory.write m a v) b = Memory.read m b := by
  induction m with
  | nil => by_cases hv : v = Memory.unlisted <;> simp [Memory.write, Memory.read, hv, hab.symm]
  | cons c m ih =>
    obtain ⟨k, w⟩ := c
    unfold Memory.write
    split
    · split <;> simp [Memory.read, hab.symm]
    · split
      · rename_i h; subst h
        split <;> simp [Memory.read, hab.symm]
      · simp only [Memory.read, ih]

theorem Memory.wfFrom_mono (m : Memory) (lo lo' : Nat) (hl : lo' ≤ lo) (h : Memory.wfFrom lo m = true) :
    Memory.wfFrom lo' m = true := by
  cases m with
  | nil => rfl
  | cons c m =>
    simp only [Memory.wfFrom, Bool.and_eq_true, decide_eq_true_eq] at h ⊢
    exact ⟨⟨by omega, h.1.2⟩, h.2⟩

theorem Memory.wfFrom_write (m : Memory) (lo a : Nat) (v : Byte) (hla : lo ≤ a) (h : Memory.wfFrom lo m = true) :
    Memory.wfFrom lo (Memory.write m a v) = true := by
  induction m generalizing lo with
  | nil => by_cases hv : v = Memory.unlisted <;> simp [Memory.write, Memory.wfFrom, hv, hla]
  | cons c m ih =>
    obtain ⟨k, w⟩ := c
    have h' := h
    simp only [Memory.wfFrom, Bool.and_eq_true, decide_eq_true_eq] at h
    unfold Memory.write
    split
    · split
      · exact h'
      · rename_i hlt hv
        simp only [Memory.wfFrom, Bool.and_eq_true, decide_eq_true_eq]
        exact ⟨⟨hla, hv⟩, ⟨by omega, h.1.2⟩, h.2⟩
    · split
      · rename_i hk; subst hk
        split
        · exact Memory.wfFrom_mono m _ _ (by omega) h.2
        · rename_i hv
          simp only [Memory.wfFrom, Bool.and_eq_true, decide_eq_true_eq]
          exact ⟨⟨hla, hv⟩, h.2⟩
      · simp only [Memory.wfFrom, Bool.and_eq_true, decide_eq_true_eq]
        exact ⟨h.1, ih (k + 1) (by omega) h.2⟩

theorem Memory.wf_write (m : Memory) (a : Nat) (v : Byte) (h : Memory.wf m = true) :
    Memory.wf (Memory.write m a v) = true := Memory.wfFrom_write m 0 a v (Nat.zero_le a) h

end Sys2Proof.Machine
end

