-- ==== Sys2Proof/Laws/State.lean ====
section
/-! SUPPORT. One lemma per field per update of the state, each true by rfl, so that no proof unfolds a record update. -/

namespace Sys2Proof.Machine

/-! ### withCpu -/

@[simp] theorem withCpu_cpu (f : Cpu → Cpu) (s : State) : (withCpu f s).cpu = f s.cpu := rfl
@[simp] theorem withCpu_irq (f : Cpu → Cpu) (s : State) : (withCpu f s).irq = s.irq := rfl
@[simp] theorem withCpu_timer (f : Cpu → Cpu) (s : State) : (withCpu f s).timer = s.timer := rfl
@[simp] theorem withCpu_dma (f : Cpu → Cpu) (s : State) : (withCpu f s).dma = s.dma := rfl
@[simp] theorem withCpu_ppu (f : Cpu → Cpu) (s : State) : (withCpu f s).ppu = s.ppu := rfl
@[simp] theorem withCpu_apu (f : Cpu → Cpu) (s : State) : (withCpu f s).apu = s.apu := rfl
@[simp] theorem withCpu_mbc (f : Cpu → Cpu) (s : State) : (withCpu f s).mbc = s.mbc := rfl
@[simp] theorem withCpu_port (f : Cpu → Cpu) (s : State) : (withCpu f s).port = s.port := rfl
@[simp] theorem withCpu_p1 (f : Cpu → Cpu) (s : State) : (withCpu f s).p1 = s.p1 := rfl
@[simp] theorem withCpu_sb (f : Cpu → Cpu) (s : State) : (withCpu f s).sb = s.sb := rfl
@[simp] theorem withCpu_sc (f : Cpu → Cpu) (s : State) : (withCpu f s).sc = s.sc := rfl
@[simp] theorem withCpu_bootOverlay (f : Cpu → Cpu) (s : State) : (withCpu f s).bootOverlay = s.bootOverlay := rfl
@[simp] theorem withCpu_mem (f : Cpu → Cpu) (s : State) : (withCpu f s).mem = s.mem := rfl
@[simp] theorem withCpu_xram (f : Cpu → Cpu) (s : State) : (withCpu f s).xram = s.xram := rfl
@[simp] theorem withCpu_cart (f : Cpu → Cpu) (s : State) : (withCpu f s).cart = s.cart := rfl
@[simp] theorem withCpu_bootRom (f : Cpu → Cpu) (s : State) : (withCpu f s).bootRom = s.bootRom := rfl
@[simp] theorem withCpu_par (f : Cpu → Cpu) (s : State) : (withCpu f s).par = s.par := rfl
@[simp] theorem withCpu_charged (f : Cpu → Cpu) (s : State) : (withCpu f s).charged = s.charged := rfl

/-! ### setReg8 -/

@[simp] theorem setReg8_cpu (r : Reg8) (v : Byte) (s : State) : (setReg8 r v s).cpu = s.cpu.set8 r v := rfl
@[simp] theorem setReg8_irq (r : Reg8) (v : Byte) (s : State) : (setReg8 r v s).irq = s.irq := rfl
@[simp] theorem setReg8_timer (r : Reg8) (v : Byte) (s : State) : (setReg8 r v s).timer = s.timer := rfl
@[simp] theorem setReg8_dma (r : Reg8) (v : Byte) (s : State) : (setReg8 r v s).dma = s.dma := rfl
@[simp] theorem setReg8_ppu (r : Reg8) (v : Byte) (s : State) : (setReg8 r v s).ppu = s.ppu := rfl
@[simp] theorem setReg8_apu (r : Reg8) (v : Byte) (s : State) : (setReg8 r v s).apu = s.apu := rfl
@[simp] theorem setReg8_mbc (r : Reg8) (v : Byte) (s : State) : (setReg8 r v s).mbc = s.mbc := rfl
@[simp] theorem setReg8_port (r : Reg8) (v : Byte) (s : State) : (setReg8 r v s).port = s.port := rfl
@[simp] theorem setReg8_p1 (r : Reg8) (v : Byte) (s : State) : (setReg8 r v s).p1 = s.p1 := rfl
@[simp] theorem setReg8_sb (r : Reg8) (v : Byte) (s : State) : (setReg8 r v s).sb = s.sb := rfl
@[simp] theorem setReg8_sc (r : Reg8) (v : Byte) (s : State) : (setReg8 r v s).sc = s.sc := rfl
@[simp] theorem setReg8_bootOverlay (r : Reg8) (v : Byte) (s : State) : (setReg8 r v s).bootOverlay = s.bootOverlay := rfl
@[simp] theorem setReg8_mem (r : Reg8) (v : Byte) (s : State) : (setReg8 r v s).mem = s.mem := rfl
@[simp] theorem setReg8_xram (r : Reg8) (v : Byte) (s : State) : (setReg8 r v s).xram = s.xram := rfl
@[simp] theorem setReg8_cart (r : Reg8) (v : Byte) (s : State) : (setReg8 r v s).cart = s.cart := rfl
@[simp] theorem setReg8_bootRom (r : Reg8) (v : Byte) (s : State) : (setReg8 r v s).bootRom = s.bootRom := rfl
@[simp] theorem setReg8_par (r : Reg8) (v : Byte) (s : State) : (setReg8 r v s).par = s.par := rfl
@[simp] theorem setReg8_charged (r : Reg8) (v : Byte) (s : State) : (setReg8 r v s).charged = s.charged := rfl

/-! ### setA -/

@[simp] theorem setA_cpu (v : Byte) (s : State) : (setA v s).cpu = { s.cpu with a := v } := rfl
@[simp] theorem setA_irq (v : Byte) (s : State) : (setA v s).irq = s.irq := rfl
@[simp] theorem setA_timer (v : Byte) (s : State) : (setA v s).timer = s.timer := rfl
@[simp] theorem setA_dma (v : Byte) (s : State) : (setA v s).dma = s.dma := rfl
@[simp] theorem setA_ppu (v : Byte) (s : State) : (setA v s).ppu = s.ppu := rfl
@[simp] theorem setA_apu (v : Byte) (s : State) : (setA v s).apu = s.apu := rfl
@[simp] theorem setA_mbc (v : Byte) (s : State) : (setA v s).mbc = s.mbc := rfl
@[simp] theorem setA_port (v : Byte) (s : State) : (setA v s).port = s.port := rfl
@[simp] theorem setA_p1 (v : Byte) (s : State) : (setA v s).p1 = s.p1 := rfl
@[simp] theorem setA_sb (v : Byte) (s : State) : (setA v s).sb = s.sb := rfl
@[simp] theorem setA_sc (v : Byte) (s : State) : (setA v s).sc = s.sc := rfl
@[simp] theorem setA_bootOverlay (v : Byte) (s : State) : (setA v s).bootOverlay = s.bootOverlay := rfl
@[simp] theorem setA_mem (v : Byte) (s : State) : (setA v s).mem = s.mem := rfl
@[simp] theorem setA_xram (v : Byte) (s : State) : (setA v s).xram = s.xram := rfl
@[simp] theorem setA_cart (v : Byte) (s : State) : (setA v s).cart = s.cart := rfl
@[simp] theorem setA_bootRom (v : Byte) (s : State) : (setA v s).bootRom = s.bootRom := rfl
@[simp] theorem setA_par (v : Byte) (s : State) : (setA v s).par = s.par := rfl
@[simp] theorem setA_charged (v : Byte) (s : State) : (setA v s).charged = s.charged := rfl

/-! ### setF -/

@[simp] theorem setF_cpu (v : Byte) (s : State) : (setF v s).cpu = { s.cpu with f := v } := rfl
@[simp] theorem setF_irq (v : Byte) (s : State) : (setF v s).irq = s.irq := rfl
@[simp] theorem setF_timer (v : Byte) (s : State) : (setF v s).timer = s.timer := rfl
@[simp] theorem setF_dma (v : Byte) (s : State) : (setF v s).dma = s.dma := rfl
@[simp] theorem setF_ppu (v : Byte) (s : State) : (setF v s).ppu = s.ppu := rfl
@[simp] theorem setF_apu (v : Byte) (s : State) : (setF v s).apu = s.apu := rfl
@[simp] theorem setF_mbc (v : Byte) (s : State) : (setF v s).mbc = s.mbc := rfl
@[simp] theorem setF_port (v : Byte) (s : State) : (setF v s).port = s.port := rfl
@[simp] theorem setF_p1 (v : Byte) (s : State) : (setF v s).p1 = s.p1 := rfl
@[simp] theorem setF_sb (v : Byte) (s : State) : (setF v s).sb = s.sb := rfl
@[simp] theorem setF_sc (v : Byte) (s : State) : (setF v s).sc = s.sc := rfl
@[simp] theorem setF_bootOverlay (v : Byte) (s : State) : (setF v s).bootOverlay = s.bootOverlay := rfl
@[simp] theorem setF_mem (v : Byte) (s : State) : (setF v s).mem = s.mem := rfl
@[simp] theorem setF_xram (v : Byte) (s : State) : (setF v s).xram = s.xram := rfl
@[simp] theorem setF_cart (v : Byte) (s : State) : (setF v s).cart = s.cart := rfl
@[simp] theorem setF_bootRom (v : Byte) (s : State) : (setF v s).bootRom = s.bootRom := rfl
@[simp] theorem setF_par (v : Byte) (s : State) : (setF v s).par = s.par := rfl
@[simp] theorem setF_charged (v : Byte) (s : State) : (setF v s).charged = s.charged := rfl

/-! ### setAF -/

@[simp] theorem setAF_cpu (x : Byte × Byte) (s : State) : (setAF x s).cpu = { s.cpu with a := x.1, f := x.2 } := rfl
@[simp] theorem setAF_irq (x : Byte × Byte) (s : State) : (setAF x s).irq = s.irq := rfl
@[simp] theorem setAF_timer (x : Byte × Byte) (s : State) : (setAF x s).timer = s.timer := rfl
@[simp] theorem setAF_dma (x : Byte × Byte) (s : State) : (setAF x s).dma = s.dma := rfl
@[simp] theorem setAF_ppu (x : Byte × Byte) (s : State) : (setAF x s).ppu = s.ppu := rfl
@[simp] theorem setAF_apu (x : Byte × Byte) (s : State) : (setAF x s).apu = s.apu := rfl
@[simp] theorem setAF_mbc (x : Byte × Byte) (s : State) : (setAF x s).mbc = s.mbc := rfl
@[simp] theorem setAF_port (x : Byte × Byte) (s : State) : (setAF x s).port = s.port := rfl
@[simp] theorem setAF_p1 (x : Byte × Byte) (s : State) : (setAF x s).p1 = s.p1 := rfl
@[simp] theorem setAF_sb (x : Byte × Byte) (s : State) : (setAF x s).sb = s.sb := rfl
@[simp] theorem setAF_sc (x : Byte × Byte) (s : State) : (setAF x s).sc = s.sc := rfl
@[simp] theorem setAF_bootOverlay (x : Byte × Byte) (s : State) : (setAF x s).bootOverlay = s.bootOverlay := rfl
@[simp] theorem setAF_mem (x : Byte × Byte) (s : State) : (setAF x s).mem = s.mem := rfl
@[simp] theorem setAF_xram (x : Byte × Byte) (s : State) : (setAF x s).xram = s.xram := rfl
@[simp] theorem setAF_cart (x : Byte × Byte) (s : State) : (setAF x s).cart = s.cart := rfl
@[simp] theorem setAF_bootRom (x : Byte × Byte) (s : State) : (setAF x s).bootRom = s.bootRom := rfl
@[simp] theorem setAF_par (x : Byte × Byte) (s : State) : (setAF x s).par = s.par := rfl
@[simp] theorem setAF_charged (x : Byte × Byte) (s : State) : (setAF x s).charged = s.charged := rfl

/-! ### setSp -/

@[simp] theorem setSp_cpu (v : Word) (s : State) : (setSp v s).cpu = { s.cpu with sp := v } := rfl
@[simp] theorem setSp_irq (v : Word) (s : State) : (setSp v s).irq = s.irq := rfl
@[simp] theorem setSp_timer (v : Word) (s : State) : (setSp v s).timer = s.timer := rfl
@[simp] theorem setSp_dma (v : Word) (s : State) : (setSp v s).dma = s.dma := rfl
@[simp] theorem setSp_ppu (v : Word) (s : State) : (setSp v s).ppu = s.ppu := rfl
@[simp] theorem setSp_apu (v : Word) (s : State) : (setSp v s).apu = s.apu := rfl
@[simp] theorem setSp_mbc (v : Word) (s : State) : (setSp v s).mbc = s.mbc := rfl
@[simp] theorem setSp_port (v : Word) (s : State) : (setSp v s).port = s.port := rfl
@[simp] theorem setSp_p1 (v : Word) (s : State) : (setSp v s).p1 = s.p1 := rfl
@[simp] theorem setSp_sb (v : Word) (s : State) : (setSp v s).sb = s.sb := rfl
@[simp] theorem setSp_sc (v : Word) (s : State) : (setSp v s).sc = s.sc := rfl
@[simp] theorem setSp_bootOverlay (v : Word) (s : State) : (setSp v s).bootOverlay = s.bootOverlay := rfl
@[simp] theorem setSp_mem (v : Word) (s : State) : (setSp v s).mem = s.mem := rfl
@[simp] theorem setSp_xram (v : Word) (s : State) : (setSp v s).xram = s.xram := rfl
@[simp] theorem setSp_cart (v : Word) (s : State) : (setSp v s).cart = s.cart := rfl
@[simp] theorem setSp_bootRom (v : Word) (s : State) : (setSp v s).bootRom = s.bootRom := rfl
@[simp] theorem setSp_par (v : Word) (s : State) : (setSp v s).par = s.par := rfl
@[simp] theorem setSp_charged (v : Word) (s : State) : (setSp v s).charged = s.charged := rfl

/-! ### setPc -/

@[simp] theorem setPc_cpu (v : Word) (s : State) : (setPc v s).cpu = { s.cpu with pc := v } := rfl
@[simp] theorem setPc_irq (v : Word) (s : State) : (setPc v s).irq = s.irq := rfl
@[simp] theorem setPc_timer (v : Word) (s : State) : (setPc v s).timer = s.timer := rfl
@[simp] theorem setPc_dma (v : Word) (s : State) : (setPc v s).dma = s.dma := rfl
@[simp] theorem setPc_ppu (v : Word) (s : State) : (setPc v s).ppu = s.ppu := rfl
@[simp] theorem setPc_apu (v : Word) (s : State) : (setPc v s).apu = s.apu := rfl
@[simp] theorem setPc_mbc (v : Word) (s : State) : (setPc v s).mbc = s.mbc := rfl
@[simp] theorem setPc_port (v : Word) (s : State) : (setPc v s).port = s.port := rfl
@[simp] theorem setPc_p1 (v : Word) (s : State) : (setPc v s).p1 = s.p1 := rfl
@[simp] theorem setPc_sb (v : Word) (s : State) : (setPc v s).sb = s.sb := rfl
@[simp] theorem setPc_sc (v : Word) (s : State) : (setPc v s).sc = s.sc := rfl
@[simp] theorem setPc_bootOverlay (v : Word) (s : State) : (setPc v s).bootOverlay = s.bootOverlay := rfl
@[simp] theorem setPc_mem (v : Word) (s : State) : (setPc v s).mem = s.mem := rfl
@[simp] theorem setPc_xram (v : Word) (s : State) : (setPc v s).xram = s.xram := rfl
@[simp] theorem setPc_cart (v : Word) (s : State) : (setPc v s).cart = s.cart := rfl
@[simp] theorem setPc_bootRom (v : Word) (s : State) : (setPc v s).bootRom = s.bootRom := rfl
@[simp] theorem setPc_par (v : Word) (s : State) : (setPc v s).par = s.par := rfl
@[simp] theorem setPc_charged (v : Word) (s : State) : (setPc v s).charged = s.charged := rfl

/-! ### storeMem -/

@[simp] theorem storeMem_cpu (a : Nat) (v : Byte) (s : State) : (storeMem a v s).cpu = s.cpu := rfl
@[simp] theorem storeMem_irq (a : Nat) (v : Byte) (s : State) : (storeMem a v s).irq = s.irq := rfl
@[simp] theorem storeMem_timer (a : Nat) (v : Byte) (s : State) : (storeMem a v s).timer = s.timer := rfl
@[simp] theorem storeMem_dma (a : Nat) (v : Byte) (s : State) : (storeMem a v s).dma = s.dma := rfl
@[simp] theorem storeMem_ppu (a : Nat) (v : Byte) (s : State) : (storeMem a v s).ppu = s.ppu := rfl
@[simp] theorem storeMem_apu (a : Nat) (v : Byte) (s : State) : (storeMem a v s).apu = s.apu := rfl
@[simp] theorem storeMem_mbc (a : Nat) (v : Byte) (s : State) : (storeMem a v s).mbc = s.mbc := rfl
@[simp] theorem storeMem_port (a : Nat) (v : Byte) (s : State) : (storeMem a v s).port = s.port := rfl
@[simp] theorem storeMem_p1 (a : Nat) (v : Byte) (s : State) : (storeMem a v s).p1 = s.p1 := rfl
@[simp] theorem storeMem_sb (a : Nat) (v : Byte) (s : State) : (storeMem a v s).sb = s.sb := rfl
@[simp] theorem storeMem_sc (a : Nat) (v : Byte) (s : State) : (storeMem a v s).sc = s.sc := rfl
@[simp] theorem storeMem_bootOverlay (a : Nat) (v : Byte) (s : State) : (storeMem a v s).bootOverlay = s.bootOverlay := rfl
@[simp] theorem storeMem_mem (a : Nat) (v : Byte) (s : State) : (storeMem a v s).mem = Memory.write s.mem a v := rfl
@[simp] theorem storeMem_xram (a : Nat) (v : Byte) (s : State) : (storeMem a v s).xram = s.xram := rfl
@[simp] theorem storeMem_cart (a : Nat) (v : Byte) (s : State) : (storeMem a v s).cart = s.cart := rfl
@[simp] theorem storeMem_bootRom (a : Nat) (v : Byte) (s : State) : (storeMem a v s).bootRom = s.bootRom := rfl
@[simp] theorem storeMem_par (a : Nat) (v : Byte) (s : State) : (storeMem a v s).par = s.par := rfl
@[simp] theorem storeMem_charged (a : Nat) (v : Byte) (s : State) : (storeMem a v s).charged = s.charged := rfl

/-! ### timerAdvance -/

@[simp] theorem timerAdvance_cpu (n : Nat) (s : State) : (timerAdvance n s).cpu = s.cpu := rfl
@[simp] theorem timerAdvance_irq (n : Nat) (s : State) : (timerAdvance n s).irq = (timerTicks n (s.timer, s.irq)).2 := rfl
@[simp] theorem timerAdvance_timer (n : Nat) (s : State) : (timerAdvance n s).timer = (timerTicks n (s.timer, s.irq)).1 := rfl
@[simp] theorem timerAdvance_dma (n : Nat) (s : State) : (timerAdvance n s).dma = s.dma := rfl
@[simp] theorem timerAdvance_ppu (n : Nat) (s : State) : (timerAdvance n s).ppu = s.ppu := rfl
@[simp] theorem timerAdvance_apu (n : Nat) (s : State) : (timerAdvance n s).apu = s.apu := rfl
@[simp] theorem timerAdvance_mbc (n : Nat) (s : State) : (timerAdvance n s).mbc = s.mbc := rfl
@[simp] theorem timerAdvance_port (n : Nat) (s : State) : (timerAdvance n s).port = s.port := rfl
@[simp] theorem timerAdvance_p1 (n : Nat) (s : State) : (timerAdvance n s).p1 = s.p1 := rfl
@[simp] theorem timerAdvance_sb (n : Nat) (s : State) : (timerAdvance n s).sb = s.sb := rfl
@[simp] theorem timerAdvance_sc (n : Nat) (s : State) : (timerAdvance n s).sc = s.sc := rfl
@[simp] theorem timerAdvance_bootOverlay (n : Nat) (s : State) : (timerAdvance n s).bootOverlay = s.bootOverlay := rfl
@[simp] theorem timerAdvance_mem (n : Nat) (s : State) : (timerAdvance n s).mem = s.mem := rfl
@[simp] theorem timerAdvance_xram (n : Nat) (s : State) : (timerAdvance n s).xram = s.xram := rfl
@[simp] theorem timerAdvance_cart (n : Nat) (s : State) : (timerAdvance n s).cart = s.cart := rfl
@[simp] theorem timerAdvance_bootRom (n : Nat) (s : State) : (timerAdvance n s).bootRom = s.bootRom := rfl
@[simp] theorem timerAdvance_par (n : Nat) (s : State) : (timerAdvance n s).par = s.par := rfl
@[simp] theorem timerAdvance_charged (n : Nat) (s : State) : (timerAdvance n s).charged = s.charged := rfl

/-! ### busTick -/

@[simp] theorem busTick_cpu (s : State) : (busTick s).cpu = s.cpu := rfl
@[simp] theorem busTick_irq (s : State) : (busTick s).irq = (timerTicks 4 (s.timer, s.irq)).2 := rfl
@[simp] theorem busTick_timer (s : State) : (busTick s).timer = (timerTicks 4 (s.timer, s.irq)).1 := rfl
@[simp] theorem busTick_dma (s : State) : (busTick s).dma = s.dma := rfl
@[simp] theorem busTick_ppu (s : State) : (busTick s).ppu = s.ppu := rfl
@[simp] theorem busTick_apu (s : State) : (busTick s).apu = s.apu := rfl
@[simp] theorem busTick_mbc (s : State) : (busTick s).mbc = s.mbc := rfl
@[simp] theorem busTick_port (s : State) : (busTick s).port = s.port := rfl
@[simp] theorem busTick_p1 (s : State) : (busTick s).p1 = s.p1 := rfl
@[simp] theorem busTick_sb (s : State) : (busTick s).sb = s.sb := rfl
@[simp] theorem busTick_sc (s : State) : (busTick s).sc = s.sc := rfl
@[simp] theorem busTick_bootOverlay (s : State) : (busTick s).bootOverlay = s.bootOverlay := rfl
@[simp] theorem busTick_mem (s : State) : (busTick s).mem = s.mem := rfl
@[simp] theorem busTick_xram (s : State) : (busTick s).xram = s.xram := rfl
@[simp] theorem busTick_cart (s : State) : (busTick s).cart = s.cart := rfl
@[simp] theorem busTick_bootRom (s : State) : (busTick s).bootRom = s.bootRom := rfl
@[simp] theorem busTick_par (s : State) : (busTick s).par = s.par := rfl
@[simp] theorem busTick_charged (s : State) : (busTick s).charged = s.charged + 4 := rfl

/-! ### finish -/

@[simp] theorem finish_cpu (c : Nat) (s : State) : (finish c s).cpu = s.cpu := rfl
@[simp] theorem finish_irq (c : Nat) (s : State) : (finish c s).irq = (timerTicks (c - s.charged) (s.timer, s.irq)).2 := rfl
@[simp] theorem finish_timer (c : Nat) (s : State) : (finish c s).timer = (timerTicks (c - s.charged) (s.timer, s.irq)).1 := rfl
@[simp] theorem finish_dma (c : Nat) (s : State) : (finish c s).dma = s.dma := rfl
@[simp] theorem finish_ppu (c : Nat) (s : State) : (finish c s).ppu = s.ppu := rfl
@[simp] theorem finish_apu (c : Nat) (s : State) : (finish c s).apu = s.apu := rfl
@[simp] theorem finish_mbc (c : Nat) (s : State) : (finish c s).mbc = s.mbc := rfl
@[simp] theorem finish_port (c : Nat) (s : State) : (finish c s).port = s.port := rfl
@[simp] theorem finish_p1 (c : Nat) (s : State) : (finish c s).p1 = s.p1 := rfl
@[simp] theorem finish_sb (c : Nat) (s : State) : (finish c s).sb = s.sb := rfl
@[simp] theorem finish_sc (c : Nat) (s : State) : (finish c s).sc = s.sc := rfl
@[simp] theorem finish_bootOverlay (c : Nat) (s : State) : (finish c s).bootOverlay = s.bootOverlay := rfl
@[simp] theorem finish_mem (c : Nat) (s : State) : (finish c s).mem = s.mem := rfl
@[simp] theorem finish_xram (c : Nat) (s : State) : (finish c s).xram = s.xram := rfl
@[simp] theorem finish_cart (c : Nat) (s : State) : (finish c s).cart = s.cart := rfl
@[simp] theorem finish_bootRom (c : Nat) (s : State) : (finish c s).bootRom = s.bootRom := rfl
@[simp] theorem finish_par (c : Nat) (s : State) : (finish c s).par = s.par := rfl
@[simp] theorem finish_charged (c : Nat) (s : State) : (finish c s).charged = c := rfl

/-! ### requestInterrupt -/

@[simp] theorem requestInterrupt_cpu (n : Source) (s : State) : (requestInterrupt n s).cpu = s.cpu := rfl
@[simp] theorem requestInterrupt_irq (n : Source) (s : State) : (requestInterrupt n s).irq = s.irq.raise n := rfl
@[simp] theorem requestInterrupt_timer (n : Source) (s : State) : (requestInterrupt n s).timer = s.timer := rfl
@[simp] theorem requestInterrupt_dma (n : Source) (s : State) : (requestInterrupt n s).dma = s.dma := rfl
@[simp] theorem requestInterrupt_ppu (n : Source) (s : State) : (requestInterrupt n s).ppu = s.ppu := rfl
@[simp] theorem requestInterrupt_apu (n : Source) (s : State) : (requestInterrupt n s).apu = s.apu := rfl
@[simp] theorem requestInterrupt_mbc (n : Source) (s : State) : (requestInterrupt n s).mbc = s.mbc := rfl
@[simp] theorem requestInterrupt_port (n : Source) (s : State) : (requestInterrupt n s).port = s.port := rfl
@[simp] theorem requestInterrupt_p1 (n : Source) (s : State) : (requestInterrupt n s).p1 = s.p1 := rfl
@[simp] theorem requestInterrupt_sb (n : Source) (s : State) : (requestInterrupt n s).sb = s.sb := rfl
@[simp] theorem requestInterrupt_sc (n : Source) (s : State) : (requestInterrupt n s).sc = s.sc := rfl
@[simp] theorem requestInterrupt_bootOverlay (n : Source) (s : State) : (requestInterrupt n s).bootOverlay = s.bootOverlay := rfl
@[simp] theorem requestInterrupt_mem (n : Source) (s : State) : (requestInterrupt n s).mem = s.mem := rfl
@[simp] theorem requestInterrupt_xram (n : Source) (s : State) : (requestInterrupt n s).xram = s.xram := rfl
@[simp] theorem requestInterrupt_cart (n : Source) (s : State) : (requestInterrupt n s).cart = s.cart := rfl
@[simp] theorem requestInterrupt_bootRom (n : Source) (s : State) : (requestInterrupt n s).bootRom = s.bootRom := rfl
@[simp] theorem requestInterrupt_par (n : Source) (s : State) : (requestInterrupt n s).par = s.par := rfl
@[simp] theorem requestInterrupt_charged (n : Source) (s : State) : (requestInterrupt n s).charged = s.charged := rfl

/-! ### ppuAdvance -/

@[simp] theorem ppuAdvance_cpu (c : Nat) (s : State) : (ppuAdvance c s).cpu = s.cpu := rfl
@[simp] theorem ppuAdvance_irq (c : Nat) (s : State) : (ppuAdvance c s).irq = (iterate (ppuTick s.mem) c (s.ppu, s.irq)).2 := rfl
@[simp] theorem ppuAdvance_timer (c : Nat) (s : State) : (ppuAdvance c s).timer = s.timer := rfl
@[simp] theorem ppuAdvance_dma (c : Nat) (s : State) : (ppuAdvance c s).dma = s.dma := rfl
@[simp] theorem ppuAdvance_ppu (c : Nat) (s : State) : (ppuAdvance c s).ppu = (iterate (ppuTick s.mem) c (s.ppu, s.irq)).1 := rfl
@[simp] theorem ppuAdvance_apu (c : Nat) (s : State) : (ppuAdvance c s).apu = s.apu := rfl
@[simp] theorem ppuAdvance_mbc (c : Nat) (s : State) : (ppuAdvance c s).mbc = s.mbc := rfl
@[simp] theorem ppuAdvance_port (c : Nat) (s : State) : (ppuAdvance c s).port = s.port := rfl
@[simp] theorem ppuAdvance_p1 (c : Nat) (s : State) : (ppuAdvance c s).p1 = s.p1 := rfl
@[simp] theorem ppuAdvance_sb (c : Nat) (s : State) : (ppuAdvance c s).sb = s.sb := rfl
@[simp] theorem ppuAdvance_sc (c : Nat) (s : State) : (ppuAdvance c s).sc = s.sc := rfl
@[simp] theorem ppuAdvance_bootOverlay (c : Nat) (s : State) : (ppuAdvance c s).bootOverlay = s.bootOverlay := rfl
@[simp] theorem ppuAdvance_mem (c : Nat) (s : State) : (ppuAdvance c s).mem = s.mem := rfl
@[simp] theorem ppuAdvance_xram (c : Nat) (s : State) : (ppuAdvance c s).xram = s.xram := rfl
@[simp] theorem ppuAdvance_cart (c : Nat) (s : State) : (ppuAdvance c s).cart = s.cart := rfl
@[simp] theorem ppuAdvance_bootRom (c : Nat) (s : State) : (ppuAdvance c s).bootRom = s.bootRom := rfl
@[simp] theorem ppuAdvance_par (c : Nat) (s : State) : (ppuAdvance c s).par = s.par := rfl
@[simp] theorem ppuAdvance_charged (c : Nat) (s : State) : (ppuAdvance c s).charged = s.charged := rfl

/-! ### apuAdvance -/

@[simp] theorem apuAdvance_cpu (c : Nat) (s : State) : (apuAdvance c s).cpu = s.cpu := rfl
@[simp] theorem apuAdvance_irq (c : Nat) (s : State) : (apuAdvance c s).irq = s.irq := rfl
@[simp] theorem apuAdvance_timer (c : Nat) (s : State) : (apuAdvance c s).timer = s.timer := rfl
@[simp] theorem apuAdvance_dma (c : Nat) (s : State) : (apuAdvance c s).dma = s.dma := rfl
@[simp] theorem apuAdvance_ppu (c : Nat) (s : State) : (apuAdvance c s).ppu = s.ppu := rfl
@[simp] theorem apuAdvance_apu (c : Nat) (s : State) : (apuAdvance c s).apu = iterate (Apu.tick s.par s.mem) c s.apu := rfl
@[simp] theorem apuAdvance_mbc (c : Nat) (s : State) : (apuAdvance c s).mbc = s.mbc := rfl
@[simp] theorem apuAdvance_port (c : Nat) (s : State) : (apuAdvance c s).port = s.port := rfl
@[simp] theorem apuAdvance_p1 (c : Nat) (s : State) : (apuAdvance c s).p1 = s.p1 := rfl
@[simp] theorem apuAdvance_sb (c : Nat) (s : State) : (apuAdvance c s).sb = s.sb := rfl
@[simp] theorem apuAdvance_sc (c : Nat) (s : State) : (apuAdvance c s).sc = s.sc := rfl
@[simp] theorem apuAdvance_bootOverlay (c : Nat) (s : State) : (apuAdvance c s).bootOverlay = s.bootOverlay := rfl
@[simp] theorem apuAdvance_mem (c : Nat) (s : State) : (apuAdvance c s).mem = s.mem := rfl
@[simp] theorem apuAdvance_xram (c : Nat) (s : State) : (apuAdvance c s).xram = s.xram := rfl
@[simp] theorem apuAdvance_cart (c : Nat) (s : State) : (apuAdvance c s).cart = s.cart := rfl
@[simp] theorem apuAdvance_bootRom (c : Nat) (s : State) : (apuAdvance c s).bootRom = s.bootRom := rfl
@[simp] theorem apuAdvance_par (c : Nat) (s : State) : (apuAdvance c s).par = s.par := rfl
@[simp] theorem apuAdvance_charged (c : Nat) (s : State) : (apuAdvance c s).charged = s.charged := rfl

/-! ### setRunState -/

@[simp] theorem setRunState_cpu (r : RunState) (s : State) : (setRunState r s).cpu = s.cpu := rfl
@[simp] theorem setRunState_irq (r : RunState) (s : State) : (setRunState r s).irq = s.irq := rfl
@[simp] theorem setRunState_timer (r : RunState) (s : State) : (setRunState r s).timer = s.timer := rfl
@[simp] theorem setRunState_dma (r : RunState) (s : State) : (setRunState r s).dma = s.dma := rfl
@[simp] theorem setRunState_ppu (r : RunState) (s : State) : (setRunState r s).ppu = s.ppu := rfl
@[simp] theorem setRunState_apu (r : RunState) (s : State) : (setRunState r s).apu = s.apu := rfl
@[simp] theorem setRunState_mbc (r : RunState) (s : State) : (setRunState r s).mbc = s.mbc := rfl
@[simp] theorem setRunState_port (r : RunState) (s : State) : (setRunState r s).port = { s.port with runState := r } := rfl
@[simp] theorem setRunState_p1 (r : RunState) (s : State) : (setRunState r s).p1 = s.p1 := rfl
@[simp] theorem setRunState_sb (r : RunState) (s : State) : (setRunState r s).sb = s.sb := rfl
@[simp] theorem setRunState_sc (r : RunState) (s : State) : (setRunState r s).sc = s.sc := rfl
@[simp] theorem setRunState_bootOverlay (r : RunState) (s : State) : (setRunState r s).bootOverlay = s.bootOverlay := rfl
@[simp] theorem setRunState_mem (r : RunState) (s : State) : (setRunState r s).mem = s.mem := rfl
@[simp] theorem setRunState_xram (r : RunState) (s : State) : (setRunState r s).xram = s.xram := rfl
@[simp] theorem setRunState_cart (r : RunState) (s : State) : (setRunState r s).cart = s.cart := rfl
@[simp] theorem setRunState_bootRom (r : RunState) (s : State) : (setRunState r s).bootRom = s.bootRom := rfl
@[simp] theorem setRunState_par (r : RunState) (s : State) : (setRunState r s).par = s.par := rfl
@[simp] theorem setRunState_charged (r : RunState) (s : State) : (setRunState r s).charged = s.charged := rfl

/-! ### wake -/

@[simp] theorem wake_cpu (s : State) : (wake s).cpu = { s.cpu with halted := false } := rfl
@[simp] theorem wake_irq (s : State) : (wake s).irq = s.irq := rfl
@[simp] theorem wake_timer (s : State) : (wake s).timer = s.timer := rfl
@[simp] theorem wake_dma (s : State) : (wake s).dma = s.dma := rfl
@[simp] theorem wake_ppu (s : State) : (wake s).ppu = s.ppu := rfl
@[simp] theorem wake_apu (s : State) : (wake s).apu = s.apu := rfl
@[simp] theorem wake_mbc (s : State) : (wake s).mbc = s.mbc := rfl
@[simp] theorem wake_port (s : State) : (wake s).port = s.port := rfl
@[simp] theorem wake_p1 (s : State) : (wake s).p1 = s.p1 := rfl
@[simp] theorem wake_sb (s : State) : (wake s).sb = s.sb := rfl
@[simp] theorem wake_sc (s : State) : (wake s).sc = s.sc := rfl
@[simp] theorem wake_bootOverlay (s : State) : (wake s).bootOverlay = s.bootOverlay := rfl
@[simp] theorem wake_mem (s : State) : (wake s).mem = s.mem := rfl
@[simp] theorem wake_xram (s : State) : (wake s).xram = s.xram := rfl
@[simp] theorem wake_cart (s : State) : (wake s).cart = s.cart := rfl
@[simp] theorem wake_bootRom (s : State) : (wake s).bootRom = s.bootRom := rfl
@[simp] theorem wake_par (s : State) : (wake s).par = s.par := rfl
@[simp] theorem wake_charged (s : State) : (wake s).charged = s.charged := rfl

end Sys2Proof.Machine
end

