-- ==== Sys2Proof/Laws/Timer.lean ====
section
/-! SUPPORT. What repeating and the passing of time can do: the induction over `iterate`, and everything `timerTicks`
leaves alone or keeps. -/

namespace Sys2Proof.Machine

/-- What one application keeps, n applications keep. -/
theorem iterate_keeps {α : Type} (P : α → Prop) (f : α → α) (hf : ∀ x, P x → P (f x)) (n : Nat) (x : α) (h : P x) :
    P (iterate f n x) := by
  induction n generalizing x with
  | zero => exact h
  | succ n ih => exact ih (f x) (hf x h)

theorem iterate_add {α : Type} (f : α → α) (m n : Nat) (x : α) : iterate f (m + n) x = iterate f n (iterate f m x) := by
  induction m generalizing x with
  | zero => simp [iterate]
  | succ m ih => rw [Nat.succ_add]; exact ih (f x)

theorem iterate_succ {α : Type} (f : α → α) (n : Nat) (x : α) : iterate f (n + 1) x = f (iterate f n x) := by
  rw [iterate_add]; rfl

theorem timerPeriod_pos (tac : Byte) : 0 < timerPeriod tac := by
  unfold timerPeriod; split <;> decide

theorem timerPeriod_le (tac : Byte) : timerPeriod tac ≤ 1024 := by
  unfold timerPeriod; split <;> decide

/-- Of the timer and IF, increments of TIMA change TIMA and the timer's request alone. -/
theorem timaIncrements_frame (n : Nat) (x : Timer × Irq) :
    (iterate timaIncrement n x).1.divCounter = x.1.divCounter ∧
    (iterate timaIncrement n x).1.timaAcc = x.1.timaAcc ∧
    (iterate timaIncrement n x).1.tma = x.1.tma ∧ (iterate timaIncrement n x).1.tac = x.1.tac ∧
    (iterate timaIncrement n x).2.enable = x.2.enable ∧
    ((iterate timaIncrement n x).2.request = x.2.request ∨
      (iterate timaIncrement n x).2.request = x.2.request ||| 0x04#8) := by
  refine iterate_keeps (fun y => y.1.divCounter = x.1.divCounter ∧ y.1.timaAcc = x.1.timaAcc ∧ y.1.tma = x.1.tma ∧
    y.1.tac = x.1.tac ∧ y.2.enable = x.2.enable ∧ (y.2.request = x.2.request ∨ y.2.request = x.2.request ||| 0x04#8))
    timaIncrement ?_ n x ⟨rfl, rfl, rfl, rfl, rfl, Or.inl rfl⟩
  intro y hy
  obtain ⟨h1, h2, h3, h4, h5, h6⟩ := hy
  unfold timaIncrement
  split
  · refine ⟨h1, h2, h3, h4, h5, Or.inr ?_⟩
    have hm : bitMask Source.timer.num = 0x04#8 := by decide
    simp only [Irq.raise, hm]
    rcases h6 with h | h <;> rw [h]
    rw [BitVec.or_assoc, BitVec.or_self]
  · exact ⟨h1, h2, h3, h4, h5, h6⟩

/-- Everything the passing of n cycles leaves alone in the timer and IF. -/
theorem timerTicks_frame (n : Nat) (x : Timer × Irq) :
    (timerTicks n x).1.tma = x.1.tma ∧ (timerTicks n x).1.tac = x.1.tac ∧ (timerTicks n x).2.enable = x.2.enable ∧
    ((timerTicks n x).2.request = x.2.request ∨ (timerTicks n x).2.request = x.2.request ||| 0x04#8) := by
  unfold timerTicks
  dsimp only
  split
  · have h := timaIncrements_frame ((x.1.timaAcc + n) / timerPeriod x.1.tac)
      ({ x.1 with divCounter := x.1.divCounter + BitVec.ofNat 16 n, timaAcc := (x.1.timaAcc + n) % timerPeriod x.1.tac }, x.2)
    exact ⟨h.2.2.1, h.2.2.2.1, h.2.2.2.2.1, h.2.2.2.2.2⟩
  · exact ⟨rfl, rfl, rfl, Or.inl rfl⟩

/-- The divider counts every cycle (R360). -/
theorem timerTicks_divCounter (n : Nat) (x : Timer × Irq) :
    (timerTicks n x).1.divCounter = x.1.divCounter + BitVec.ofNat 16 n := by
  unfold timerTicks
  dsimp only
  split
  · exact (timaIncrements_frame _ _).1
  · rfl

theorem timerTicks_ok (n : Nat) (x : Timer × Irq) (h : TimerOk x.1) : TimerOk (timerTicks n x).1 := by
  unfold timerTicks
  dsimp only
  split
  · rename_i hb
    have hf := timaIncrements_frame ((x.1.timaAcc + n) / timerPeriod x.1.tac)
      ({ x.1 with divCounter := x.1.divCounter + BitVec.ofNat 16 n, timaAcc := (x.1.timaAcc + n) % timerPeriod x.1.tac }, x.2)
    constructor
    · rw [hf.2.1, hf.2.2.2.1]; exact Nat.mod_lt _ (timerPeriod_pos _)
    · rw [hf.2.2.2.1]; intro h0; exact absurd h0 (by simpa using hb)
  · exact ⟨h.below, h.off⟩

theorem byte_or_and (x y z : Byte) : (x ||| y) &&& z = (x &&& z) ||| (y &&& z) := by
  ext i
  simp only [BitVec.getElem_and, BitVec.getElem_or]
  cases x[i] <;> cases y[i] <;> cases z[i] <;> rfl

theorem irqOk_of_request (q q' : Irq) (h : q'.request = q.request ∨ q'.request = q.request ||| 0x04#8) (hq : IrqOk q) :
    IrqOk q' := by
  have h0 := hq.request
  constructor
  rcases h with h | h <;> rw [h]
  · exact h0
  · rw [byte_or_and, h0]; rfl

theorem timerTicks_irqOk (n : Nat) (x : Timer × Irq) (h : IrqOk x.2) : IrqOk (timerTicks n x).2 :=
  irqOk_of_request x.2 _ (timerTicks_frame n x).2.2.2 h

theorem raise_irqOk (n : Source) (q : Irq) (h : IrqOk q) : IrqOk (q.raise n) := by
  have h0 := h.request
  constructor
  simp only [Irq.raise]
  rw [byte_or_and, h0]
  cases n <;> decide

theorem acknowledge_irqOk (n : Source) (q : Irq) (h : IrqOk q) : IrqOk (q.acknowledge n) := by
  have h0 := h.request
  constructor
  simp only [Irq.acknowledge]
  rw [BitVec.and_assoc, BitVec.and_comm (~~~_), ← BitVec.and_assoc, h0]
  simp

end Sys2Proof.Machine
end

