-- ==== Sys2Proof/Laws/Bus.lean ====
section
/-! SUPPORT. What a bus access can do, said once: everything a CPU write leaves alone, and that the memory operations
keep the canonical form. -/

namespace Sys2Proof.Machine

/-- Everything a CPU write leaves alone, whatever the address. -/
structure WriteKeeps (s t : State) : Prop where
  cpu : t.cpu = s.cpu
  par : t.par = s.par
  cart : t.cart = s.cart
  bootRom : t.bootRom = s.bootRom
  header : t.mbc.header = s.mbc.header
  charged : t.charged = s.charged

theorem WriteKeeps.refl (s : State) : WriteKeeps s s := ⟨rfl, rfl, rfl, rfl, rfl, rfl⟩

theorem mbcWrite_header (a : Word) (v : Byte) (m : Mbc) : (mbcWrite a v m).header = m.header := by
  unfold mbcWrite
  split
  · unfold toggleRam; dsimp only; split <;> (try split) <;> rfl
  · split
    · unfold changeRomBank; split <;> (try split) <;> rfl
    · split
      · unfold changeRamBank; split <;> (try split) <;> rfl
      · unfold changeMode; split <;> (try split) <;> rfl

theorem startDma_keeps (v : Byte) (s : State) : WriteKeeps s (startDma v s) := ⟨rfl, rfl, rfl, rfl, rfl, rfl⟩

theorem writeSc_keeps (v : Byte) (s : State) : WriteKeeps s (writeSc v s) := by
  unfold writeSc; split <;> exact ⟨rfl, rfl, rfl, rfl, rfl, rfl⟩

theorem ioWrite_keeps (r : IoReg) (a : Nat) (v : Byte) (s : State) : WriteKeeps s (ioWrite r a v s) := by
  cases r
  case sc => exact writeSc_keeps v s
  case dma => exact startDma_keeps v s
  case waveRam => unfold ioWrite; dsimp only; split <;> exact ⟨rfl, rfl, rfl, rfl, rfl, rfl⟩
  all_goals exact ⟨rfl, rfl, rfl, rfl, rfl, rfl⟩

theorem routeWrite_keeps (a : Word) (v : Byte) (s : State) : WriteKeeps s (routeWrite a v s) := by
  unfold routeWrite
  split
  case h_1 => exact ⟨rfl, rfl, rfl, rfl, mbcWrite_header a v s.mbc, rfl⟩
  case h_2 => exact ⟨rfl, rfl, rfl, rfl, mbcWrite_header a v s.mbc, rfl⟩
  case h_9 => exact ioWrite_keeps _ _ v s
  all_goals exact ⟨rfl, rfl, rfl, rfl, rfl, rfl⟩

theorem cpuWrite_keeps (a : Word) (v : Byte) (s : State) : WriteKeeps s (cpuWrite a v s) := by
  unfold cpuWrite
  split
  · exact WriteKeeps.refl s
  · split
    · exact WriteKeeps.refl s
    · exact routeWrite_keeps a v s

@[simp] theorem cpuWrite_cpu (a : Word) (v : Byte) (s : State) : (cpuWrite a v s).cpu = s.cpu := (cpuWrite_keeps a v s).cpu
@[simp] theorem cpuWrite_par (a : Word) (v : Byte) (s : State) : (cpuWrite a v s).par = s.par := (cpuWrite_keeps a v s).par
@[simp] theorem cpuWrite_cart (a : Word) (v : Byte) (s : State) : (cpuWrite a v s).cart = s.cart := (cpuWrite_keeps a v s).cart
@[simp] theorem cpuWrite_bootRom (a : Word) (v : Byte) (s : State) : (cpuWrite a v s).bootRom = s.bootRom :=
  (cpuWrite_keeps a v s).bootRom
@[simp] theorem cpuWrite_header (a : Word) (v : Byte) (s : State) : (cpuWrite a v s).mbc.header = s.mbc.header :=
  (cpuWrite_keeps a v s).header
@[simp] theorem cpuWrite_charged (a : Word) (v : Byte) (s : State) : (cpuWrite a v s).charged = s.charged :=
  (cpuWrite_keeps a v s).charged

@[simp] theorem memWrite_cpu (a : Word) (v : Byte) (s : State) : (memWrite a v s).cpu = s.cpu := by simp [memWrite]
@[simp] theorem memWrite_par (a : Word) (v : Byte) (s : State) : (memWrite a v s).par = s.par := by simp [memWrite]
@[simp] theorem memWrite_cart (a : Word) (v : Byte) (s : State) : (memWrite a v s).cart = s.cart := by simp [memWrite]
@[simp] theorem memWrite_bootRom (a : Word) (v : Byte) (s : State) : (memWrite a v s).bootRom = s.bootRom := by
  simp [memWrite]
@[simp] theorem memWrite_header (a : Word) (v : Byte) (s : State) : (memWrite a v s).mbc.header = s.mbc.header := by
  simp [memWrite]
@[simp] theorem memWrite_charged (a : Word) (v : Byte) (s : State) : (memWrite a v s).charged = s.charged + 4 := by
  simp [memWrite]

/-- A charged read charges and changes nothing else. -/
@[simp] theorem memRead_state (a : Word) (s : State) : (memRead a s).2 = busTick s := rfl
@[simp] theorem memRead_value (a : Word) (s : State) : (memRead a s).1 = cpuRead a (busTick s) := rfl

@[simp] theorem pushByte_cpu (v : Byte) (s : State) : (pushByte v s).cpu = { s.cpu with sp := s.cpu.sp - 1#16 } := by
  simp [pushByte]

/-- A push moves SP down by two and changes no other CPU register. -/
@[simp] theorem push16_cpu (v : Word) (s : State) : (push16 v s).cpu = { s.cpu with sp := s.cpu.sp - 1#16 - 1#16 } := by
  simp [push16]

@[simp] theorem popByte_cpu (s : State) : (popByte s).2.cpu = { s.cpu with sp := s.cpu.sp + 1#16 } := rfl

/-- A pop moves SP up by two and changes no other CPU register. -/
@[simp] theorem pop16_cpu (s : State) : (pop16 s).2.cpu = { s.cpu with sp := s.cpu.sp + 1#16 + 1#16 } := rfl

/-! ### The canonical form -/

theorem dmaCopy_wf (page : Nat) (s : State) (h : Memory.wf s.mem = true) : Memory.wf (dmaCopy page s) = true := by
  unfold dmaCopy
  generalize List.range 0xA0 = l
  suffices H : ∀ (l : List Nat) (m : Memory), Memory.wf m = true →
      Memory.wf (l.foldl (fun m i => Memory.write m (0xFE00 + i) (load (page * 0x100 + i) s)) m) = true from H l _ h
  intro l
  induction l with
  | nil => intro m hm; exact hm
  | cons i l ih => intro m hm; exact ih _ (Memory.wf_write m _ _ hm)

theorem xramWrite_wf (m : Mbc) (x : Memory) (a : Nat) (v : Byte) (h : Memory.wf x = true) :
    Memory.wf (xramWrite m x a v) = true := by
  unfold xramWrite
  split
  · exact h
  · exact Memory.wf_write _ _ _ h

theorem startDma_wf (v : Byte) (s : State) (h : Memory.wf s.mem = true) : Memory.wf (startDma v s).mem = true := by
  unfold startDma
  dsimp only
  apply dmaCopy_wf
  exact h

theorem storeMem_wf (a : Nat) (v : Byte) (s : State) (h : Memory.wf s.mem = true) : Memory.wf (storeMem a v s).mem = true :=
  Memory.wf_write s.mem a v h

theorem ioWrite_images (r : IoReg) (a : Nat) (v : Byte) (s : State) (hm : Memory.wf s.mem = true)
    (hx : Memory.wf s.xram = true) : Memory.wf (ioWrite r a v s).mem = true ∧ Memory.wf (ioWrite r a v s).xram = true := by
  cases r
  case sc => unfold ioWrite writeSc; dsimp only; split <;> exact ⟨hm, hx⟩
  case dma => exact ⟨startDma_wf v s hm, hx⟩
  case waveRam => unfold ioWrite; dsimp only; split
                  · exact ⟨hm, hx⟩
                  · exact ⟨storeMem_wf a v s hm, hx⟩
  case boot => exact ⟨storeMem_wf a v { s with bootOverlay := false } hm, hx⟩
  case plain => exact ⟨storeMem_wf a v s hm, hx⟩
  all_goals exact ⟨hm, hx⟩

/-- A CPU write keeps both images in canonical form. -/
theorem cpuWrite_images (a : Word) (v : Byte) (s : State) (hm : Memory.wf s.mem = true) (hx : Memory.wf s.xram = true) :
    Memory.wf (cpuWrite a v s).mem = true ∧ Memory.wf (cpuWrite a v s).xram = true := by
  unfold cpuWrite
  split
  · exact ⟨hm, hx⟩
  · split
    · exact ⟨hm, hx⟩
    · unfold routeWrite
      split
      case h_1 => exact ⟨hm, hx⟩
      case h_2 => exact ⟨hm, hx⟩
      case h_4 => exact ⟨hm, xramWrite_wf _ _ _ _ hx⟩
      case h_8 => exact ⟨hm, hx⟩
      case h_9 => exact ioWrite_images _ _ v s hm hx
      case h_11 => exact ⟨hm, hx⟩
      all_goals exact ⟨storeMem_wf _ v s hm, hx⟩

/-! ### `DMA_EXEMPT` (R7, R107) -/

/-- A list of every value of a width. -/
theorem every_word_listed (n : Nat) : ∃ l : List (BitVec n), ∀ a, a ∈ l :=
  ⟨(List.range (2 ^ n)).map (BitVec.ofNat n), fun a =>
    List.mem_map.2 ⟨a.toNat, List.mem_range.2 a.isLt, BitVec.eq_of_toNat_eq (by simp)⟩⟩

/-- Every predicate on addresses is the exempt set of some parameters: the list of ranges shuts none out. -/
theorem dmaExempt_any_predicate (holds : Word → Bool) (par : Params) :
    ∃ ranges : List (Word × Word), ∀ a, dmaExempt { par with dmaExempt := ranges } a = holds a := by
  obtain ⟨l, hl⟩ := every_word_listed 16
  refine ⟨(l.filter holds).map fun a => (a, a), fun a => Bool.eq_iff_iff.2 ⟨fun h => ?_, fun h => ?_⟩⟩
  · obtain ⟨r, hr, hb⟩ := List.any_eq_true.1 h
    obtain ⟨b, hf, rfl⟩ := List.mem_map.1 hr
    simp only [Bool.and_eq_true, decide_eq_true_eq] at hb
    exact BitVec.eq_of_toNat_eq (Nat.le_antisymm hb.1 hb.2) ▸ (List.mem_filter.1 hf).2
  · exact List.any_eq_true.2 ⟨(a, a), List.mem_map.2 ⟨a, List.mem_filter.2 ⟨hl a, h⟩, rfl⟩, by simp⟩

end Sys2Proof.Machine
end

