-- ==== Sys2Proof/Laws/Forms.lean ====
section
/-! SUPPORT. Every instruction is one of the forms the encoding tables select (R150, R151), so that a proof over all
instructions has one case per form; and what `exec` does with each form. -/

namespace Sys2Proof.Machine

/-- The forms of the two opcode maps: the families by their operands, the single instructions by name. -/
inductive Form : Instr → Prop
  | ldRegReg (rd rs : Reg8) : Form (Sys2Proof.ldRegReg rd rs)
  | ldRegImm (rd : Reg8) (n : Byte) : Form (Sys2Proof.ldRegImm rd n)
  | ldRegHl (rd : Reg8) : Form (Sys2Proof.ldRegHl rd)
  | ldHlReg (rs : Reg8) : Form (Sys2Proof.ldHlReg rs)
  | ldPairImm (p : Reg16) (nn : Word) : Form (Sys2Proof.ldPairImm p nn)
  | pushPair (p : StackPair) : Form (Sys2Proof.pushPair p)
  | popPair (p : StackPair) : Form (Sys2Proof.popPair p)
  | aluReg (op : AluOp) (r : Reg8) : Form (Sys2Proof.aluReg op r)
  | aluHl (op : AluOp) : Form (Sys2Proof.aluHl op)
  | aluImm (op : AluOp) (n : Byte) : Form (Sys2Proof.aluImm op n)
  | incReg (r : Reg8) : Form (Sys2Proof.incReg r)
  | decReg (r : Reg8) : Form (Sys2Proof.decReg r)
  | addHlPair (p : Reg16) : Form (Sys2Proof.addHlPair p)
  | incPair (p : Reg16) : Form (Sys2Proof.incPair p)
  | decPair (p : Reg16) : Form (Sys2Proof.decPair p)
  | rotReg (op : RotOp) (r : Reg8) : Form (Sys2Proof.rotReg op r)
  | rotHl (op : RotOp) : Form (Sys2Proof.rotHl op)
  | bitReg (b : Sel3) (r : Reg8) : Form (Sys2Proof.bitReg b r)
  | bitHl (b : Sel3) : Form (Sys2Proof.bitHl b)
  | resReg (b : Sel3) (r : Reg8) : Form (Sys2Proof.resReg b r)
  | resHl (b : Sel3) : Form (Sys2Proof.resHl b)
  | setReg (b : Sel3) (r : Reg8) : Form (Sys2Proof.setReg b r)
  | setHl (b : Sel3) : Form (Sys2Proof.setHl b)
  | jpCond (cc : Cond) (nn : Word) : Form (Sys2Proof.jpCond cc nn)
  | jrCond (cc : Cond) (e : Byte) : Form (Sys2Proof.jrCond cc e)
  | callCond (cc : Cond) (nn : Word) : Form (Sys2Proof.callCond cc nn)
  | retCond (cc : Cond) : Form (Sys2Proof.retCond cc)
  | rstTo (t : Sel3) : Form (Sys2Proof.rstTo t)
  | nop : Form .nop
  | ld_mBc_a : Form .ld_mBc_a
  | rlca : Form .rlca
  | ld_mNn_sp (nn : Word) : Form (.ld_mNn_sp nn)
  | ld_a_mBc : Form .ld_a_mBc
  | rrca : Form .rrca
  | stop (n : Byte) : Form (.stop n)
  | ld_mDe_a : Form .ld_mDe_a
  | rla : Form .rla
  | jr_e (e : Byte) : Form (.jr_e e)
  | ld_a_mDe : Form .ld_a_mDe
  | rra : Form .rra
  | ld_mHli_a : Form .ld_mHli_a
  | daa : Form .daa
  | ld_a_mHli : Form .ld_a_mHli
  | cpl : Form .cpl
  | ld_mHld_a : Form .ld_mHld_a
  | inc_mHl : Form .inc_mHl
  | dec_mHl : Form .dec_mHl
  | ld_mHl_n (n : Byte) : Form (.ld_mHl_n n)
  | scf : Form .scf
  | ld_a_mHld : Form .ld_a_mHld
  | ccf : Form .ccf
  | halt : Form .halt
  | jp_nn (nn : Word) : Form (.jp_nn nn)
  | ret : Form .ret
  | call_nn (nn : Word) : Form (.call_nn nn)
  | unassigned_d3 : Form .unassigned_d3
  | reti : Form .reti
  | unassigned_db : Form .unassigned_db
  | unassigned_dd : Form .unassigned_dd
  | ldh_mN_a (n : Byte) : Form (.ldh_mN_a n)
  | ldh_mC_a : Form .ldh_mC_a
  | unassigned_e3 : Form .unassigned_e3
  | unassigned_e4 : Form .unassigned_e4
  | add_sp_e (e : Byte) : Form (.add_sp_e e)
  | jp_hl : Form .jp_hl
  | ld_mNn_a (nn : Word) : Form (.ld_mNn_a nn)
  | unassigned_eb : Form .unassigned_eb
  | unassigned_ec : Form .unassigned_ec
  | unassigned_ed : Form .unassigned_ed
  | ldh_a_mN (n : Byte) : Form (.ldh_a_mN n)
  | ldh_a_mC : Form .ldh_a_mC
  | di : Form .di
  | unassigned_f4 : Form .unassigned_f4
  | ld_hl_spE (e : Byte) : Form (.ld_hl_spE e)
  | ld_sp_hl : Form .ld_sp_hl
  | ld_a_mNn (nn : Word) : Form (.ld_a_mNn nn)
  | ei : Form .ei
  | unassigned_fc : Form .unassigned_fc
  | unassigned_fd : Form .unassigned_fd

/-- Every instruction has a form. -/
theorem form_of (i : Instr) : Form i :=
  match i with
  | .nop => .nop
  | .ld_bc_nn nn => .ldPairImm .bc nn
  | .ld_mBc_a => .ld_mBc_a
  | .inc_bc => .incPair .bc
  | .inc_b => .incReg .b
  | .dec_b => .decReg .b
  | .ld_b_n n => .ldRegImm .b n
  | .rlca => .rlca
  | .ld_mNn_sp nn => .ld_mNn_sp nn
  | .add_hl_bc => .addHlPair .bc
  | .ld_a_mBc => .ld_a_mBc
  | .dec_bc => .decPair .bc
  | .inc_c => .incReg .c
  | .dec_c => .decReg .c
  | .ld_c_n n => .ldRegImm .c n
  | .rrca => .rrca
  | .stop n => .stop n
  | .ld_de_nn nn => .ldPairImm .de nn
  | .ld_mDe_a => .ld_mDe_a
  | .inc_de => .incPair .de
  | .inc_d => .incReg .d
  | .dec_d => .decReg .d
  | .ld_d_n n => .ldRegImm .d n
  | .rla => .rla
  | .jr_e e => .jr_e e
  | .add_hl_de => .addHlPair .de
  | .ld_a_mDe => .ld_a_mDe
  | .dec_de => .decPair .de
  | .inc_e => .incReg .e
  | .dec_e => .decReg .e
  | .ld_e_n n => .ldRegImm .e n
  | .rra => .rra
  | .jr_nz_e e => .jrCond .nz e
  | .ld_hl_nn nn => .ldPairImm .hl nn
  | .ld_mHli_a => .ld_mHli_a
  | .inc_hl => .incPair .hl
  | .inc_h => .incReg .h
  | .dec_h => .decReg .h
  | .ld_h_n n => .ldRegImm .h n
  | .daa => .daa
  | .jr_z_e e => .jrCond .z e
  | .add_hl_hl => .addHlPair .hl
  | .ld_a_mHli => .ld_a_mHli
  | .dec_hl => .decPair .hl
  | .inc_l => .incReg .l
  | .dec_l => .decReg .l
  | .ld_l_n n => .ldRegImm .l n
  | .cpl => .cpl
  | .jr_nc_e e => .jrCond .nc e
  | .ld_sp_nn nn => .ldPairImm .sp nn
  | .ld_mHld_a => .ld_mHld_a
  | .inc_sp => .incPair .sp
  | .inc_mHl => .inc_mHl
  | .dec_mHl => .dec_mHl
  | .ld_mHl_n n => .ld_mHl_n n
  | .scf => .scf
  | .jr_c_e e => .jrCond .c e
  | .add_hl_sp => .addHlPair .sp
  | .ld_a_mHld => .ld_a_mHld
  | .dec_sp => .decPair .sp
  | .inc_a => .incReg .a
  | .dec_a => .decReg .a
  | .ld_a_n n => .ldRegImm .a n
  | .ccf => .ccf
  | .ld_b_b => .ldRegReg .b .b
  | .ld_b_c => .ldRegReg .b .c
  | .ld_b_d => .ldRegReg .b .d
  | .ld_b_e => .ldRegReg .b .e
  | .ld_b_h => .ldRegReg .b .h
  | .ld_b_l => .ldRegReg .b .l
  | .ld_b_mHl => .ldRegHl .b
  | .ld_b_a => .ldRegReg .b .a
  | .ld_c_b => .ldRegReg .c .b
  | .ld_c_c => .ldRegReg .c .c
  | .ld_c_d => .ldRegReg .c .d
  | .ld_c_e => .ldRegReg .c .e
  | .ld_c_h => .ldRegReg .c .h
  | .ld_c_l => .ldRegReg .c .l
  | .ld_c_mHl => .ldRegHl .c
  | .ld_c_a => .ldRegReg .c .a
  | .ld_d_b => .ldRegReg .d .b
  | .ld_d_c => .ldRegReg .d .c
  | .ld_d_d => .ldRegReg .d .d
  | .ld_d_e => .ldRegReg .d .e
  | .ld_d_h => .ldRegReg .d .h
  | .ld_d_l => .ldRegReg .d .l
  | .ld_d_mHl => .ldRegHl .d
  | .ld_d_a => .ldRegReg .d .a
  | .ld_e_b => .ldRegReg .e .b
  | .ld_e_c => .ldRegReg .e .c
  | .ld_e_d => .ldRegReg .e .d
  | .ld_e_e => .ldRegReg .e .e
  | .ld_e_h => .ldRegReg .e .h
  | .ld_e_l => .ldRegReg .e .l
  | .ld_e_mHl => .ldRegHl .e
  | .ld_e_a => .ldRegReg .e .a
  | .ld_h_b => .ldRegReg .h .b
  | .ld_h_c => .ldRegReg .h .c
  | .ld_h_d => .ldRegReg .h .d
  | .ld_h_e => .ldRegReg .h .e
  | .ld_h_h => .ldRegReg .h .h
  | .ld_h_l => .ldRegReg .h .l
  | .ld_h_mHl => .ldRegHl .h
  | .ld_h_a => .ldRegReg .h .a
  | .ld_l_b => .ldRegReg .l .b
  | .ld_l_c => .ldRegReg .l .c
  | .ld_l_d => .ldRegReg .l .d
  | .ld_l_e => .ldRegReg .l .e
  | .ld_l_h => .ldRegReg .l .h
  | .ld_l_l => .ldRegReg .l .l
  | .ld_l_mHl => .ldRegHl .l
  | .ld_l_a => .ldRegReg .l .a
  | .ld_mHl_b => .ldHlReg .b
  | .ld_mHl_c => .ldHlReg .c
  | .ld_mHl_d => .ldHlReg .d
  | .ld_mHl_e => .ldHlReg .e
  | .ld_mHl_h => .ldHlReg .h
  | .ld_mHl_l => .ldHlReg .l
  | .halt => .halt
  | .ld_mHl_a => .ldHlReg .a
  | .ld_a_b => .ldRegReg .a .b
  | .ld_a_c => .ldRegReg .a .c
  | .ld_a_d => .ldRegReg .a .d
  | .ld_a_e => .ldRegReg .a .e
  | .ld_a_h => .ldRegReg .a .h
  | .ld_a_l => .ldRegReg .a .l
  | .ld_a_mHl => .ldRegHl .a
  | .ld_a_a => .ldRegReg .a .a
  | .add_a_b => .aluReg .add .b
  | .add_a_c => .aluReg .add .c
  | .add_a_d => .aluReg .add .d
  | .add_a_e => .aluReg .add .e
  | .add_a_h => .aluReg .add .h
  | .add_a_l => .aluReg .add .l
  | .add_a_mHl => .aluHl .add
  | .add_a_a => .aluReg .add .a
  | .adc_a_b => .aluReg .adc .b
  | .adc_a_c => .aluReg .adc .c
  | .adc_a_d => .aluReg .adc .d
  | .adc_a_e => .aluReg .adc .e
  | .adc_a_h => .aluReg .adc .h
  | .adc_a_l => .aluReg .adc .l
  | .adc_a_mHl => .aluHl .adc
  | .adc_a_a => .aluReg .adc .a
  | .sub_b => .aluReg .sub .b
  | .sub_c => .aluReg .sub .c
  | .sub_d => .aluReg .sub .d
  | .sub_e => .aluReg .sub .e
  | .sub_h => .aluReg .sub .h
  | .sub_l => .aluReg .sub .l
  | .sub_mHl => .aluHl .sub
  | .sub_a => .aluReg .sub .a
  | .sbc_a_b => .aluReg .sbc .b
  | .sbc_a_c => .aluReg .sbc .c
  | .sbc_a_d => .aluReg .sbc .d
  | .sbc_a_e => .aluReg .sbc .e
  | .sbc_a_h => .aluReg .sbc .h
  | .sbc_a_l => .aluReg .sbc .l
  | .sbc_a_mHl => .aluHl .sbc
  | .sbc_a_a => .aluReg .sbc .a
  | .and_b => .aluReg .and .b
  | .and_c => .aluReg .and .c
  | .and_d => .aluReg .and .d
  | .and_e => .aluReg .and .e
  | .and_h => .aluReg .and .h
  | .and_l => .aluReg .and .l
  | .and_mHl => .aluHl .and
  | .and_a => .aluReg .and .a
  | .xor_b => .aluReg .xor .b
  | .xor_c => .aluReg .xor .c
  | .xor_d => .aluReg .xor .d
  | .xor_e => .aluReg .xor .e
  | .xor_h => .aluReg .xor .h
  | .xor_l => .aluReg .xor .l
  | .xor_mHl => .aluHl .xor
  | .xor_a => .aluReg .xor .a
  | .or_b => .aluReg .or .b
  | .or_c => .aluReg .or .c
  | .or_d => .aluReg .or .d
  | .or_e => .aluReg .or .e
  | .or_h => .aluReg .or .h
  | .or_l => .aluReg .or .l
  | .or_mHl => .aluHl .or
  | .or_a => .aluReg .or .a
  | .cp_b => .aluReg .cp .b
  | .cp_c => .aluReg .cp .c
  | .cp_d => .aluReg .cp .d
  | .cp_e => .aluReg .cp .e
  | .cp_h => .aluReg .cp .h
  | .cp_l => .aluReg .cp .l
  | .cp_mHl => .aluHl .cp
  | .cp_a => .aluReg .cp .a
  | .ret_nz => .retCond .nz
  | .pop_bc => .popPair .bc
  | .jp_nz_nn nn => .jpCond .nz nn
  | .jp_nn nn => .jp_nn nn
  | .call_nz_nn nn => .callCond .nz nn
  | .push_bc => .pushPair .bc
  | .add_a_n n => .aluImm .add n
  | .rst_00 => .rstTo .v0
  | .ret_z => .retCond .z
  | .ret => .ret
  | .jp_z_nn nn => .jpCond .z nn
  | .call_z_nn nn => .callCond .z nn
  | .call_nn nn => .call_nn nn
  | .adc_a_n n => .aluImm .adc n
  | .rst_08 => .rstTo .v1
  | .ret_nc => .retCond .nc
  | .pop_de => .popPair .de
  | .jp_nc_nn nn => .jpCond .nc nn
  | .unassigned_d3 => .unassigned_d3
  | .call_nc_nn nn => .callCond .nc nn
  | .push_de => .pushPair .de
  | .sub_n n => .aluImm .sub n
  | .rst_10 => .rstTo .v2
  | .ret_c => .retCond .c
  | .reti => .reti
  | .jp_c_nn nn => .jpCond .c nn
  | .unassigned_db => .unassigned_db
  | .call_c_nn nn => .callCond .c nn
  | .unassigned_dd => .unassigned_dd
  | .sbc_a_n n => .aluImm .sbc n
  | .rst_18 => .rstTo .v3
  | .ldh_mN_a n => .ldh_mN_a n
  | .pop_hl => .popPair .hl
  | .ldh_mC_a => .ldh_mC_a
  | .unassigned_e3 => .unassigned_e3
  | .unassigned_e4 => .unassigned_e4
  | .push_hl => .pushPair .hl
  | .and_n n => .aluImm .and n
  | .rst_20 => .rstTo .v4
  | .add_sp_e e => .add_sp_e e
  | .jp_hl => .jp_hl
  | .ld_mNn_a nn => .ld_mNn_a nn
  | .unassigned_eb => .unassigned_eb
  | .unassigned_ec => .unassigned_ec
  | .unassigned_ed => .unassigned_ed
  | .xor_n n => .aluImm .xor n
  | .rst_28 => .rstTo .v5
  | .ldh_a_mN n => .ldh_a_mN n
  | .pop_af => .popPair .af
  | .ldh_a_mC => .ldh_a_mC
  | .di => .di
  | .unassigned_f4 => .unassigned_f4
  | .push_af => .pushPair .af
  | .or_n n => .aluImm .or n
  | .rst_30 => .rstTo .v6
  | .ld_hl_spE e => .ld_hl_spE e
  | .ld_sp_hl => .ld_sp_hl
  | .ld_a_mNn nn => .ld_a_mNn nn
  | .ei => .ei
  | .unassigned_fc => .unassigned_fc
  | .unassigned_fd => .unassigned_fd
  | .cp_n n => .aluImm .cp n
  | .rst_38 => .rstTo .v7
  | .rlc_b => .rotReg .rlc .b
  | .rlc_c => .rotReg .rlc .c
  | .rlc_d => .rotReg .rlc .d
  | .rlc_e => .rotReg .rlc .e
  | .rlc_h => .rotReg .rlc .h
  | .rlc_l => .rotReg .rlc .l
  | .rlc_mHl => .rotHl .rlc
  | .rlc_a => .rotReg .rlc .a
  | .rrc_b => .rotReg .rrc .b
  | .rrc_c => .rotReg .rrc .c
  | .rrc_d => .rotReg .rrc .d
  | .rrc_e => .rotReg .rrc .e
  | .rrc_h => .rotReg .rrc .h
  | .rrc_l => .rotReg .rrc .l
  | .rrc_mHl => .rotHl .rrc
  | .rrc_a => .rotReg .rrc .a
  | .rl_b => .rotReg .rl .b
  | .rl_c => .rotReg .rl .c
  | .rl_d => .rotReg .rl .d
  | .rl_e => .rotReg .rl .e
  | .rl_h => .rotReg .rl .h
  | .rl_l => .rotReg .rl .l
  | .rl_mHl => .rotHl .rl
  | .rl_a => .rotReg .rl .a
  | .rr_b => .rotReg .rr .b
  | .rr_c => .rotReg .rr .c
  | .rr_d => .rotReg .rr .d
  | .rr_e => .rotReg .rr .e
  | .rr_h => .rotReg .rr .h
  | .rr_l => .rotReg .rr .l
  | .rr_mHl => .rotHl .rr
  | .rr_a => .rotReg .rr .a
  | .sla_b => .rotReg .sla .b
  | .sla_c => .rotReg .sla .c
  | .sla_d => .rotReg .sla .d
  | .sla_e => .rotReg .sla .e
  | .sla_h => .rotReg .sla .h
  | .sla_l => .rotReg .sla .l
  | .sla_mHl => .rotHl .sla
  | .sla_a => .rotReg .sla .a
  | .sra_b => .rotReg .sra .b
  | .sra_c => .rotReg .sra .c
  | .sra_d => .rotReg .sra .d
  | .sra_e => .rotReg .sra .e
  | .sra_h => .rotReg .sra .h
  | .sra_l => .rotReg .sra .l
  | .sra_mHl => .rotHl .sra
  | .sra_a => .rotReg .sra .a
  | .swap_b => .rotReg .swap .b
  | .swap_c => .rotReg .swap .c
  | .swap_d => .rotReg .swap .d
  | .swap_e => .rotReg .swap .e
  | .swap_h => .rotReg .swap .h
  | .swap_l => .rotReg .swap .l
  | .swap_mHl => .rotHl .swap
  | .swap_a => .rotReg .swap .a
  | .srl_b => .rotReg .srl .b
  | .srl_c => .rotReg .srl .c
  | .srl_d => .rotReg .srl .d
  | .srl_e => .rotReg .srl .e
  | .srl_h => .rotReg .srl .h
  | .srl_l => .rotReg .srl .l
  | .srl_mHl => .rotHl .srl
  | .srl_a => .rotReg .srl .a
  | .bit_0_b => .bitReg .v0 .b
  | .bit_0_c => .bitReg .v0 .c
  | .bit_0_d => .bitReg .v0 .d
  | .bit_0_e => .bitReg .v0 .e
  | .bit_0_h => .bitReg .v0 .h
  | .bit_0_l => .bitReg .v0 .l
  | .bit_0_mHl => .bitHl .v0
  | .bit_0_a => .bitReg .v0 .a
  | .bit_1_b => .bitReg .v1 .b
  | .bit_1_c => .bitReg .v1 .c
  | .bit_1_d => .bitReg .v1 .d
  | .bit_1_e => .bitReg .v1 .e
  | .bit_1_h => .bitReg .v1 .h
  | .bit_1_l => .bitReg .v1 .l
  | .bit_1_mHl => .bitHl .v1
  | .bit_1_a => .bitReg .v1 .a
  | .bit_2_b => .bitReg .v2 .b
  | .bit_2_c => .bitReg .v2 .c
  | .bit_2_d => .bitReg .v2 .d
  | .bit_2_e => .bitReg .v2 .e
  | .bit_2_h => .bitReg .v2 .h
  | .bit_2_l => .bitReg .v2 .l
  | .bit_2_mHl => .bitHl .v2
  | .bit_2_a => .bitReg .v2 .a
  | .bit_3_b => .bitReg .v3 .b
  | .bit_3_c => .bitReg .v3 .c
  | .bit_3_d => .bitReg .v3 .d
  | .bit_3_e => .bitReg .v3 .e
  | .bit_3_h => .bitReg .v3 .h
  | .bit_3_l => .bitReg .v3 .l
  | .bit_3_mHl => .bitHl .v3
  | .bit_3_a => .bitReg .v3 .a
  | .bit_4_b => .bitReg .v4 .b
  | .bit_4_c => .bitReg .v4 .c
  | .bit_4_d => .bitReg .v4 .d
  | .bit_4_e => .bitReg .v4 .e
  | .bit_4_h => .bitReg .v4 .h
  | .bit_4_l => .bitReg .v4 .l
  | .bit_4_mHl => .bitHl .v4
  | .bit_4_a => .bitReg .v4 .a
  | .bit_5_b => .bitReg .v5 .b
  | .bit_5_c => .bitReg .v5 .c
  | .bit_5_d => .bitReg .v5 .d
  | .bit_5_e => .bitReg .v5 .e
  | .bit_5_h => .bitReg .v5 .h
  | .bit_5_l => .bitReg .v5 .l
  | .bit_5_mHl => .bitHl .v5
  | .bit_5_a => .bitReg .v5 .a
  | .bit_6_b => .bitReg .v6 .b
  | .bit_6_c => .bitReg .v6 .c
  | .bit_6_d => .bitReg .v6 .d
  | .bit_6_e => .bitReg .v6 .e
  | .bit_6_h => .bitReg .v6 .h
  | .bit_6_l => .bitReg .v6 .l
  | .bit_6_mHl => .bitHl .v6
  | .bit_6_a => .bitReg .v6 .a
  | .bit_7_b => .bitReg .v7 .b
  | .bit_7_c => .bitReg .v7 .c
  | .bit_7_d => .bitReg .v7 .d
  | .bit_7_e => .bitReg .v7 .e
  | .bit_7_h => .bitReg .v7 .h
  | .bit_7_l => .bitReg .v7 .l
  | .bit_7_mHl => .bitHl .v7
  | .bit_7_a => .bitReg .v7 .a
  | .res_0_b => .resReg .v0 .b
  | .res_0_c => .resReg .v0 .c
  | .res_0_d => .resReg .v0 .d
  | .res_0_e => .resReg .v0 .e
  | .res_0_h => .resReg .v0 .h
  | .res_0_l => .resReg .v0 .l
  | .res_0_mHl => .resHl .v0
  | .res_0_a => .resReg .v0 .a
  | .res_1_b => .resReg .v1 .b
  | .res_1_c => .resReg .v1 .c
  | .res_1_d => .resReg .v1 .d
  | .res_1_e => .resReg .v1 .e
  | .res_1_h => .resReg .v1 .h
  | .res_1_l => .resReg .v1 .l
  | .res_1_mHl => .resHl .v1
  | .res_1_a => .resReg .v1 .a
  | .res_2_b => .resReg .v2 .b
  | .res_2_c => .resReg .v2 .c
  | .res_2_d => .resReg .v2 .d
  | .res_2_e => .resReg .v2 .e
  | .res_2_h => .resReg .v2 .h
  | .res_2_l => .resReg .v2 .l
  | .res_2_mHl => .resHl .v2
  | .res_2_a => .resReg .v2 .a
  | .res_3_b => .resReg .v3 .b
  | .res_3_c => .resReg .v3 .c
  | .res_3_d => .resReg .v3 .d
  | .res_3_e => .resReg .v3 .e
  | .res_3_h => .resReg .v3 .h
  | .res_3_l => .resReg .v3 .l
  | .res_3_mHl => .resHl .v3
  | .res_3_a => .resReg .v3 .a
  | .res_4_b => .resReg .v4 .b
  | .res_4_c => .resReg .v4 .c
  | .res_4_d => .resReg .v4 .d
  | .res_4_e => .resReg .v4 .e
  | .res_4_h => .resReg .v4 .h
  | .res_4_l => .resReg .v4 .l
  | .res_4_mHl => .resHl .v4
  | .res_4_a => .resReg .v4 .a
  | .res_5_b => .resReg .v5 .b
  | .res_5_c => .resReg .v5 .c
  | .res_5_d => .resReg .v5 .d
  | .res_5_e => .resReg .v5 .e
  | .res_5_h => .resReg .v5 .h
  | .res_5_l => .resReg .v5 .l
  | .res_5_mHl => .resHl .v5
  | .res_5_a => .resReg .v5 .a
  | .res_6_b => .resReg .v6 .b
  | .res_6_c => .resReg .v6 .c
  | .res_6_d => .resReg .v6 .d
  | .res_6_e => .resReg .v6 .e
  | .res_6_h => .resReg .v6 .h
  | .res_6_l => .resReg .v6 .l
  | .res_6_mHl => .resHl .v6
  | .res_6_a => .resReg .v6 .a
  | .res_7_b => .resReg .v7 .b
  | .res_7_c => .resReg .v7 .c
  | .res_7_d => .resReg .v7 .d
  | .res_7_e => .resReg .v7 .e
  | .res_7_h => .resReg .v7 .h
  | .res_7_l => .resReg .v7 .l
  | .res_7_mHl => .resHl .v7
  | .res_7_a => .resReg .v7 .a
  | .set_0_b => .setReg .v0 .b
  | .set_0_c => .setReg .v0 .c
  | .set_0_d => .setReg .v0 .d
  | .set_0_e => .setReg .v0 .e
  | .set_0_h => .setReg .v0 .h
  | .set_0_l => .setReg .v0 .l
  | .set_0_mHl => .setHl .v0
  | .set_0_a => .setReg .v0 .a
  | .set_1_b => .setReg .v1 .b
  | .set_1_c => .setReg .v1 .c
  | .set_1_d => .setReg .v1 .d
  | .set_1_e => .setReg .v1 .e
  | .set_1_h => .setReg .v1 .h
  | .set_1_l => .setReg .v1 .l
  | .set_1_mHl => .setHl .v1
  | .set_1_a => .setReg .v1 .a
  | .set_2_b => .setReg .v2 .b
  | .set_2_c => .setReg .v2 .c
  | .set_2_d => .setReg .v2 .d
  | .set_2_e => .setReg .v2 .e
  | .set_2_h => .setReg .v2 .h
  | .set_2_l => .setReg .v2 .l
  | .set_2_mHl => .setHl .v2
  | .set_2_a => .setReg .v2 .a
  | .set_3_b => .setReg .v3 .b
  | .set_3_c => .setReg .v3 .c
  | .set_3_d => .setReg .v3 .d
  | .set_3_e => .setReg .v3 .e
  | .set_3_h => .setReg .v3 .h
  | .set_3_l => .setReg .v3 .l
  | .set_3_mHl => .setHl .v3
  | .set_3_a => .setReg .v3 .a
  | .set_4_b => .setReg .v4 .b
  | .set_4_c => .setReg .v4 .c
  | .set_4_d => .setReg .v4 .d
  | .set_4_e => .setReg .v4 .e
  | .set_4_h => .setReg .v4 .h
  | .set_4_l => .setReg .v4 .l
  | .set_4_mHl => .setHl .v4
  | .set_4_a => .setReg .v4 .a
  | .set_5_b => .setReg .v5 .b
  | .set_5_c => .setReg .v5 .c
  | .set_5_d => .setReg .v5 .d
  | .set_5_e => .setReg .v5 .e
  | .set_5_h => .setReg .v5 .h
  | .set_5_l => .setReg .v5 .l
  | .set_5_mHl => .setHl .v5
  | .set_5_a => .setReg .v5 .a
  | .set_6_b => .setReg .v6 .b
  | .set_6_c => .setReg .v6 .c
  | .set_6_d => .setReg .v6 .d
  | .set_6_e => .setReg .v6 .e
  | .set_6_h => .setReg .v6 .h
  | .set_6_l => .setReg .v6 .l
  | .set_6_mHl => .setHl .v6
  | .set_6_a => .setReg .v6 .a
  | .set_7_b => .setReg .v7 .b
  | .set_7_c => .setReg .v7 .c
  | .set_7_d => .setReg .v7 .d
  | .set_7_e => .setReg .v7 .e
  | .set_7_h => .setReg .v7 .h
  | .set_7_l => .setReg .v7 .l
  | .set_7_mHl => .setHl .v7
  | .set_7_a => .setReg .v7 .a

/-! ### The meaning of each family -/

theorem exec_ldRegReg (rd rs : Reg8) (s : State) :
    exec (Sys2Proof.ldRegReg rd rs) s = ldReg rd rs s := by
  cases rd <;> cases rs <;> rfl

theorem exec_ldRegImm (rd : Reg8) (n : Byte) (s : State) :
    exec (Sys2Proof.ldRegImm rd n) s = ldImm rd n s := by
  cases rd <;> rfl

theorem exec_ldRegHl (rd : Reg8) (s : State) :
    exec (Sys2Proof.ldRegHl rd) s = ldFromHl rd s := by
  cases rd <;> rfl

theorem exec_ldHlReg (rs : Reg8) (s : State) :
    exec (Sys2Proof.ldHlReg rs) s = ldToHl rs s := by
  cases rs <;> rfl

theorem exec_ldPairImm (p : Reg16) (nn : Word) (s : State) :
    exec (Sys2Proof.ldPairImm p nn) s = complete 12 (withCpu (Cpu.set16 p nn) s) := by
  cases p <;> rfl

theorem exec_pushPair (p : StackPair) (s : State) :
    exec (Sys2Proof.pushPair p) s = pushPairOp p s := by
  cases p <;> rfl

theorem exec_popPair (p : StackPair) (s : State) :
    exec (Sys2Proof.popPair p) s = popPairOp p s := by
  cases p <;> rfl

theorem exec_aluReg (op : AluOp) (r : Reg8) (s : State) :
    exec (Sys2Proof.aluReg op r) s = aluReg8 op r s := by
  cases op <;> cases r <;> rfl

theorem exec_aluHl (op : AluOp) (s : State) :
    exec (Sys2Proof.aluHl op) s = aluMem op s := by
  cases op <;> rfl

theorem exec_aluImm (op : AluOp) (n : Byte) (s : State) :
    exec (Sys2Proof.aluImm op n) s = aluByte op n s := by
  cases op <;> rfl

theorem exec_incReg (r : Reg8) (s : State) :
    exec (Sys2Proof.incReg r) s = incReg8 r s := by
  cases r <;> rfl

theorem exec_decReg (r : Reg8) (s : State) :
    exec (Sys2Proof.decReg r) s = decReg8 r s := by
  cases r <;> rfl

theorem exec_addHlPair (p : Reg16) (s : State) :
    exec (Sys2Proof.addHlPair p) s = addHl p s := by
  cases p <;> rfl

theorem exec_incPair (p : Reg16) (s : State) :
    exec (Sys2Proof.incPair p) s = stepPair p 1#16 s := by
  cases p <;> rfl

theorem exec_decPair (p : Reg16) (s : State) :
    exec (Sys2Proof.decPair p) s = stepPair p (-1#16) s := by
  cases p <;> rfl

theorem exec_rotReg (op : RotOp) (r : Reg8) (s : State) :
    exec (Sys2Proof.rotReg op r) s = rotReg8 op r s := by
  cases op <;> cases r <;> rfl

theorem exec_rotHl (op : RotOp) (s : State) :
    exec (Sys2Proof.rotHl op) s = rotMem op s := by
  cases op <;> rfl

theorem exec_bitReg (b : Sel3) (r : Reg8) (s : State) :
    exec (Sys2Proof.bitReg b r) s = bitReg8 b.num r s := by
  cases b <;> cases r <;> rfl

theorem exec_bitHl (b : Sel3) (s : State) :
    exec (Sys2Proof.bitHl b) s = bitMem b.num s := by
  cases b <;> rfl

theorem exec_resReg (b : Sel3) (r : Reg8) (s : State) :
    exec (Sys2Proof.resReg b r) s = resReg8 b.num r s := by
  cases b <;> cases r <;> rfl

theorem exec_resHl (b : Sel3) (s : State) :
    exec (Sys2Proof.resHl b) s = resMem b.num s := by
  cases b <;> rfl

theorem exec_setReg (b : Sel3) (r : Reg8) (s : State) :
    exec (Sys2Proof.setReg b r) s = setReg8Bit b.num r s := by
  cases b <;> cases r <;> rfl

theorem exec_setHl (b : Sel3) (s : State) :
    exec (Sys2Proof.setHl b) s = setMem b.num s := by
  cases b <;> rfl

theorem exec_jpCond (cc : Cond) (nn : Word) (s : State) :
    exec (Sys2Proof.jpCond cc nn) s = whenCond cc 16 12 (setPc nn) s := by
  cases cc <;> rfl

theorem exec_jrCond (cc : Cond) (e : Byte) (s : State) :
    exec (Sys2Proof.jrCond cc e) s = whenCond cc 12 8 (jumpBy e) s := by
  cases cc <;> rfl

theorem exec_callCond (cc : Cond) (nn : Word) (s : State) :
    exec (Sys2Proof.callCond cc nn) s = whenCond cc 24 12 (callTo nn) s := by
  cases cc <;> rfl

theorem exec_retCond (cc : Cond) (s : State) :
    exec (Sys2Proof.retCond cc) s = whenCond cc 20 8 popPc s := by
  cases cc <;> rfl

theorem exec_rstTo (t : Sel3) (s : State) :
    exec (Sys2Proof.rstTo t) s = complete 16 (callTo (rstTarget t.num) s) := by
  cases t <;> rfl

end Sys2Proof.Machine
end

