-- ==== Sys2Proof/Laws/Units.lean ====
section
/-! SUPPORT. Every operation of a unit keeps the unit within its ranges: the PPU, the sound unit, the bank controller. -/

namespace Sys2Proof.Machine

theorem field_lt (v : Byte) (lo len : Nat) : field v lo len < 2 ^ len := Nat.mod_lt _ (Nat.two_pow_pos len)

/-! ### PPU -/

theorem rasterize_ok (mem : Memory) (ly : Nat) (p : Ppu) (h : PpuOk p) : PpuOk (p.rasterize mem ly) := by
  constructor
  · exact h.line
  · exact h.budgetLow
  · exact h.budgetHigh
  · simp [Ppu.rasterize, h.rows]
  · intro row hr
    simp only [Ppu.rasterize] at hr
    rcases List.mem_or_eq_of_mem_set hr with h1 | h1
    · exact h.width row h1
    · subst h1; simp [Ppu.pixelRow]
  · simp [Ppu.rasterize, h.codeRows]
  · intro row hr
    simp only [Ppu.rasterize] at hr
    rcases List.mem_or_eq_of_mem_set hr with h1 | h1
    · exact h.codeWidth row h1
    · subst h1; simp [Ppu.codeRow]

theorem lineEnd_ok (mem : Memory) (x : Ppu × Irq) (h : PpuOk x.1) (hq : IrqOk x.2) :
    PpuOk (lineEnd mem x).1 ∧ IrqOk (lineEnd mem x).2 := by
  have hl := h.line
  have hb : (x.1.ly + 1#8).toNat = x.1.ly.toNat + 1 := by
    rw [BitVec.toNat_add]; simp; omega
  have keep : ∀ (ly : Byte) (fr : Bool), ly.toNat ≤ 153 →
      PpuOk { x.1 with budget := 456, ly := ly, frameReady := fr } := fun ly fr h1 =>
    ⟨h1, by show 1 ≤ 456; decide, by show 456 ≤ 456; decide, h.rows, h.width, h.codeRows, h.codeWidth⟩
  unfold lineEnd
  dsimp only
  rw [hb]
  split
  · exact ⟨rasterize_ok _ _ _ (keep _ x.1.frameReady (by omega)), hq⟩
  · split
    · exact ⟨keep _ true (by omega), raise_irqOk _ _ hq⟩
    · split
      · exact ⟨keep 0#8 x.1.frameReady (by decide), hq⟩
      · exact ⟨keep _ x.1.frameReady (by omega), hq⟩

theorem updateMode_ok (x : Ppu × Irq) (h : PpuOk x.1) (hq : IrqOk x.2) :
    PpuOk (updateMode x).1 ∧ IrqOk (updateMode x).2 := by
  unfold updateMode
  dsimp only
  split
  · exact ⟨h, hq⟩
  · refine ⟨⟨h.line, h.budgetLow, h.budgetHigh, h.rows, h.width, h.codeRows, h.codeWidth⟩, ?_⟩
    dsimp only
    split
    · exact raise_irqOk _ _ hq
    · exact hq

theorem updateCoincidence_ok (x : Ppu × Irq) (h : PpuOk x.1) (hq : IrqOk x.2) :
    PpuOk (updateCoincidence x).1 ∧ IrqOk (updateCoincidence x).2 := by
  unfold updateCoincidence
  dsimp only
  refine ⟨⟨h.line, h.budgetLow, h.budgetHigh, h.rows, h.width, h.codeRows, h.codeWidth⟩, ?_⟩
  split
  · exact raise_irqOk _ _ hq
  · exact hq

theorem ppuTick_ok (mem : Memory) (x : Ppu × Irq) (h : PpuOk x.1) (hq : IrqOk x.2) :
    PpuOk (ppuTick mem x).1 ∧ IrqOk (ppuTick mem x).2 := by
  unfold ppuTick
  split
  · have key : ∀ y : Ppu × Irq, PpuOk y.1 → IrqOk y.2 →
        PpuOk (updateCoincidence (updateMode y)).1 ∧ IrqOk (updateCoincidence (updateMode y)).2 := fun y h1 h2 =>
      updateCoincidence_ok _ (updateMode_ok y h1 h2).1 (updateMode_ok y h1 h2).2
    dsimp only
    split
    · exact key _ (lineEnd_ok mem x h hq).1 (lineEnd_ok mem x h hq).2
    · refine key _ ⟨h.line, ?_, ?_, h.rows, h.width, h.codeRows, h.codeWidth⟩ hq
      · have := h.budgetLow; dsimp only; omega
      · have := h.budgetHigh; dsimp only; omega
  · exact ⟨h, hq⟩

theorem writeLcdc_ok (v : Byte) (p : Ppu) (h : PpuOk p) : PpuOk (p.writeLcdc v) := by
  unfold Ppu.writeLcdc
  split
  · exact ⟨by show (0#8).toNat ≤ 153; decide, by show 1 ≤ 456; decide, by show 456 ≤ 456; decide, h.rows, h.width,
      h.codeRows, h.codeWidth⟩
  · exact ⟨h.line, h.budgetLow, h.budgetHigh, h.rows, h.width, h.codeRows, h.codeWidth⟩

theorem writeLy_ok (p : Ppu) (h : PpuOk p) : PpuOk p.writeLy :=
  ⟨by show (0#8).toNat ≤ 153; decide, h.budgetLow, h.budgetHigh, h.rows, h.width, h.codeRows, h.codeWidth⟩

/-! ### Sound -/

theorem pulseTick_ok (c : Pulse) (h : PulseOk c) : PulseOk c.tick := by
  unfold Pulse.tick
  split
  · exact ⟨h.duty, h.length, h.env, h.vol⟩
  · exact ⟨Nat.lt_succ_iff.mp (Nat.mod_lt _ (by decide)), h.length, h.env, h.vol⟩

theorem waveTick_ok (c : Wave) (h : WaveOk c) : WaveOk c.tick := by
  unfold Wave.tick
  split
  · exact ⟨h.pos, h.length⟩
  · exact ⟨Nat.lt_succ_iff.mp (Nat.mod_lt _ (by decide)), h.length⟩

theorem noiseTick_ok (c : Noise) (h : NoiseOk c) : NoiseOk c.tick := by
  unfold Noise.tick
  split <;> exact ⟨h.length, h.env, h.vol⟩

theorem lengthTick_le (nr4 : Byte) (n : Nat) (on : Bool) : (lengthTick nr4 n on).1 ≤ n := by
  unfold lengthTick; split <;> simp

theorem envelopeTick_le (nr2 : Byte) (t v : Nat) (ht : t ≤ 7) (hv : v ≤ 15) :
    (envelopeTick nr2 t v).1 ≤ 7 ∧ (envelopeTick nr2 t v).2 ≤ 15 := by
  have := field_lt nr2 0 3
  unfold envelopeTick
  dsimp only
  repeat' split
  all_goals dsimp only; omega

theorem pulseLength_ok (c : Pulse) (h : PulseOk c) : PulseOk c.lengthTick :=
  ⟨h.duty, Nat.le_trans (lengthTick_le _ _ _) h.length, h.env, h.vol⟩

theorem waveLength_ok (c : Wave) (h : WaveOk c) : WaveOk c.lengthTick :=
  ⟨h.pos, Nat.le_trans (lengthTick_le _ _ _) h.length⟩

theorem noiseLength_ok (c : Noise) (h : NoiseOk c) : NoiseOk c.lengthTick :=
  ⟨Nat.le_trans (lengthTick_le _ _ _) h.length, h.env, h.vol⟩

theorem pulseEnvelope_ok (c : Pulse) (h : PulseOk c) : PulseOk c.envelopeTick :=
  ⟨h.duty, h.length, (envelopeTick_le _ _ _ h.env h.vol).1, (envelopeTick_le _ _ _ h.env h.vol).2⟩

theorem noiseEnvelope_ok (c : Noise) (h : NoiseOk c) : NoiseOk c.envelopeTick :=
  ⟨h.length, (envelopeTick_le _ _ _ h.env h.vol).1, (envelopeTick_le _ _ _ h.env h.vol).2⟩

theorem sweepReload_le (w : Sweep) : w.reload ≤ 8 := by
  have := field_lt w.nr10 4 3
  unfold Sweep.reload; split <;> omega

theorem frequency_le (x y : Byte) : frequency x y ≤ 2047 := by
  have h1 := field_lt x 0 3
  have h2 : y.toNat < 256 := y.isLt
  unfold frequency; omega

theorem pulseTrigger_ok (c : Pulse) (h : PulseOk c) : PulseOk c.trigger := by
  have h1 := field_lt c.nr2 0 3
  have h2 := field_lt c.nr2 4 4
  have h3 := h.length
  refine ⟨h.duty, ?_, ?_, ?_⟩
  · show triggerLength 64 c.length ≤ 64
    unfold triggerLength; split <;> omega
  · show field c.nr2 0 3 ≤ 7
    omega
  · show field c.nr2 4 4 ≤ 15
    omega

theorem waveTrigger_ok (c : Wave) (h : WaveOk c) : WaveOk c.trigger := by
  have h3 := h.length
  refine ⟨by show 0 ≤ 31; decide, ?_⟩
  show triggerLength 256 c.length ≤ 256
  unfold triggerLength; split <;> omega

theorem noiseTrigger_ok (c : Noise) (h : NoiseOk c) : NoiseOk c.trigger := by
  have h1 := field_lt c.nr42 0 3
  have h2 := field_lt c.nr42 4 4
  have h3 := h.length
  refine ⟨?_, ?_, ?_⟩
  · show triggerLength 64 c.length ≤ 64
    unfold triggerLength; split <;> omega
  · show field c.nr42 0 3 ≤ 7
    omega
  · show field c.nr42 4 4 ≤ 15
    omega

/-- A sound unit that differs from a legal one in the named parts is legal when those parts are. -/
theorem apuOk_parts {par : Params} {a b : Apu} (h : ApuOk par a) (h1 : PulseOk b.pulse1) (h2 : PulseOk b.pulse2)
    (hs : SweepOk b.sweep) (hw : WaveOk b.wave) (hn : NoiseOk b.noise) (h52 : b.nr52 = a.nr52) (hq : b.seq = a.seq)
    (hp : b.sampler = a.sampler) : ApuOk par b :=
  ⟨h1, h2, hs, hw, hn, h52 ▸ h.nr52, hq ▸ h.counter, hq ▸ h.step, hp ▸ h.acc, hp ▸ h.buf⟩

theorem sweepCheck_ok {par : Params} (a : Apu) (h : ApuOk par a) : ApuOk par a.sweepCheck := by
  unfold Apu.sweepCheck
  split
  · exact apuOk_parts h ⟨h.pulse1.duty, h.pulse1.length, h.pulse1.env, h.pulse1.vol⟩ h.pulse2 h.sweep h.wave h.noise
      rfl rfl rfl
  · exact h

theorem sweepTick_ok {par : Params} (a : Apu) (h : ApuOk par a) : ApuOk par a.sweepTick := by
  unfold Apu.sweepTick
  split
  · refine apuOk_parts h h.pulse1 h.pulse2 ⟨?_, h.sweep.shadow⟩ h.wave h.noise rfl rfl rfl
    have := h.sweep.timer; dsimp only; omega
  · dsimp only
    have hb : ApuOk par { a with sweep := { a.sweep with timer := a.sweep.reload } } :=
      apuOk_parts h h.pulse1 h.pulse2 ⟨sweepReload_le _, h.sweep.shadow⟩ h.wave h.noise rfl rfl rfl
    split
    · split
      · exact apuOk_parts hb ⟨h.pulse1.duty, h.pulse1.length, h.pulse1.env, h.pulse1.vol⟩ hb.pulse2 hb.sweep hb.wave hb.noise
          rfl rfl rfl
      · rename_i hnf
        split
        · refine sweepCheck_ok _ (apuOk_parts hb ⟨h.pulse1.duty, h.pulse1.length, h.pulse1.env, h.pulse1.vol⟩ hb.pulse2
            ⟨hb.sweep.timer, ?_⟩ hb.wave hb.noise rfl rfl rfl)
          exact Nat.le_of_not_lt hnf
        · exact hb
    · exact hb

theorem apuLengthTick_ok {par : Params} (a : Apu) (h : ApuOk par a) : ApuOk par a.lengthTick :=
  apuOk_parts h (pulseLength_ok _ h.pulse1) (pulseLength_ok _ h.pulse2) h.sweep (waveLength_ok _ h.wave)
    (noiseLength_ok _ h.noise) rfl rfl rfl

theorem apuEnvelopeTick_ok {par : Params} (a : Apu) (h : ApuOk par a) : ApuOk par a.envelopeTick :=
  apuOk_parts h (pulseEnvelope_ok _ h.pulse1) (pulseEnvelope_ok _ h.pulse2) h.sweep h.wave (noiseEnvelope_ok _ h.noise)
    rfl rfl rfl

theorem fsEvent_ok {par : Params} (n : Nat) (a : Apu) (h : ApuOk par a) : ApuOk par (Apu.fsEvent n a) := by
  unfold Apu.fsEvent
  split
  · exact apuLengthTick_ok a h
  · exact sweepTick_ok _ (apuLengthTick_ok a h)
  · exact apuLengthTick_ok a h
  · exact sweepTick_ok _ (apuLengthTick_ok a h)
  · exact apuEnvelopeTick_ok a h
  · exact h

theorem tickSequencer_ok {par : Params} (a : Apu) (h : ApuOk par a) : ApuOk par a.tickSequencer := by
  unfold Apu.tickSequencer
  split
  · have h1 := fsEvent_ok a.seq.step a h
    exact ⟨h1.pulse1, h1.pulse2, h1.sweep, h1.wave, h1.noise, h1.nr52, by show 0 ≤ 8191; decide,
      Nat.lt_succ_iff.mp (Nat.mod_lt _ (by decide)), h1.acc, h1.buf⟩
  · have := h.counter
    exact ⟨h.pulse1, h.pulse2, h.sweep, h.wave, h.noise, h.nr52, by dsimp only; omega, h.step, h.acc, h.buf⟩

theorem tickTimers_ok {par : Params} (a : Apu) (h : ApuOk par a) : ApuOk par a.tickTimers :=
  apuOk_parts h (pulseTick_ok _ h.pulse1) (pulseTick_ok _ h.pulse2) h.sweep (waveTick_ok _ h.wave) (noiseTick_ok _ h.noise)
    rfl rfl rfl

theorem tickSampler_ok {par : Params} (mem : Memory) (a : Apu) (h : ApuOk par a) (hp : 1 ≤ par.samplePeriod)
    (hb : 1 ≤ par.audioBufSamples) : ApuOk par (a.tickSampler par mem) := by
  unfold Apu.tickSampler
  have hacc := h.acc
  have hbuf := h.buf
  split
  · refine ⟨h.pulse1, h.pulse2, h.sweep, h.wave, h.noise, h.nr52, h.counter, h.step, ?_, ?_⟩
    · unfold Sampler.push; dsimp only; split <;> exact hp
    · unfold Sampler.push
      dsimp only
      split
      · exact hb
      · rename_i hne
        simp only [List.length_append, List.length_cons, List.length_nil] at hne ⊢
        omega
  · exact ⟨h.pulse1, h.pulse2, h.sweep, h.wave, h.noise, h.nr52, h.counter, h.step, by dsimp only; omega, h.buf⟩

theorem apuTick_ok {par : Params} (mem : Memory) (a : Apu) (h : ApuOk par a) (hp : 1 ≤ par.samplePeriod)
    (hb : 1 ≤ par.audioBufSamples) : ApuOk par (a.tick par mem) :=
  tickSampler_ok mem _ (tickTimers_ok _ (tickSequencer_ok a h)) hp hb

theorem write14_ok {par : Params} (v : Byte) (a : Apu) (h : ApuOk par a) : ApuOk par (a.write14 v) := by
  unfold Apu.write14
  have hb : ApuOk par { a with pulse1 := { a.pulse1 with nr4 := v } } :=
    apuOk_parts h ⟨h.pulse1.duty, h.pulse1.length, h.pulse1.env, h.pulse1.vol⟩ h.pulse2 h.sweep h.wave h.noise rfl rfl rfl
  dsimp only
  split
  · unfold Apu.trigger1
    dsimp only
    have hc : ApuOk par { a with
        pulse1 := Pulse.trigger { a.pulse1 with nr4 := v },
        sweep := a.sweep.trigger (Pulse.freq { a.pulse1 with nr4 := v }) } :=
      apuOk_parts hb (pulseTrigger_ok _ hb.pulse1) hb.pulse2 ⟨sweepReload_le _, frequency_le _ _⟩ hb.wave hb.noise rfl rfl rfl
    split
    · exact sweepCheck_ok _ hc
    · exact hc
  · exact hb

theorem write24_ok (v : Byte) (c : Pulse) (h : PulseOk c) : PulseOk (c.write4 v) := by
  unfold Pulse.write4
  have hb : PulseOk { c with nr4 := v } := ⟨h.duty, h.length, h.env, h.vol⟩
  dsimp only
  split
  · exact pulseTrigger_ok _ hb
  · exact hb

theorem write34_ok (v : Byte) (c : Wave) (h : WaveOk c) : WaveOk (c.write34 v) := by
  unfold Wave.write34
  have hb : WaveOk { c with nr34 := v } := ⟨h.pos, h.length⟩
  dsimp only
  split
  · exact waveTrigger_ok _ hb
  · exact hb

theorem write44_ok (v : Byte) (c : Noise) (h : NoiseOk c) : NoiseOk (c.write44 v) := by
  unfold Noise.write44
  have hb : NoiseOk { c with nr44 := v } := ⟨h.length, h.env, h.vol⟩
  dsimp only
  split
  · exact noiseTrigger_ok _ hb
  · exact hb

theorem write52_ok {par : Params} (v : Byte) (a : Apu) (h : ApuOk par a) : ApuOk par (a.write52 v) := by
  have hv : (v &&& 0x80#8) &&& 0x7F#8 = 0x00#8 := by rw [BitVec.and_assoc]; simp
  unfold Apu.write52
  split
  · exact ⟨h.pulse1, h.pulse2, h.sweep, h.wave, h.noise, hv, h.counter, h.step, h.acc, h.buf⟩
  · exact ⟨⟨h.pulse1.duty, h.pulse1.length, h.pulse1.env, h.pulse1.vol⟩,
      ⟨h.pulse2.duty, h.pulse2.length, h.pulse2.env, h.pulse2.vol⟩, h.sweep, ⟨h.wave.pos, h.wave.length⟩,
      ⟨h.noise.length, h.noise.env, h.noise.vol⟩, hv, h.counter, h.step, h.acc, h.buf⟩

theorem write1_ok (v : Byte) (c : Pulse) (h : PulseOk c) : PulseOk (c.write1 v) :=
  ⟨h.duty, Nat.sub_le _ _, h.env, h.vol⟩

theorem write31_ok (v : Byte) (c : Wave) (h : WaveOk c) : WaveOk (c.write31 v) := ⟨h.pos, Nat.sub_le _ _⟩

theorem write41_ok (v : Byte) (c : Noise) (h : NoiseOk c) : NoiseOk (c.write41 v) := ⟨Nat.sub_le _ _, h.env, h.vol⟩

/-! ### The bank controller -/

theorem mbcWrite_ok (a : Word) (v : Byte) (m : Mbc) (h : MbcOk m) : MbcOk (mbcWrite a v m) := by
  obtain ⟨h1, h2, h3, h4, h5⟩ := h
  have hpos : 0 < m.header.romBanks := by omega
  have hmax : 0 < max m.header.ramBanks 1 := by omega
  unfold mbcWrite
  split
  · unfold toggleRam
    dsimp only
    split
    · exact ⟨h1, h2, h3, h4, h5⟩
    · rename_i ht
      split
      · exact ⟨h1, h2, h3, h4, h5⟩
      · exact ⟨h1, h2, h3, fun hr => absurd (ht ▸ hr) (by decide), h5⟩
    · rename_i ht; exact ⟨h1, h2, h3, fun hr => absurd (ht ▸ hr) (by decide), h5⟩
    · rename_i ht; exact ⟨h1, h2, h3, fun hr => absurd (ht ▸ hr) (by decide), h5⟩
  · split
    · unfold changeRomBank
      split
      · exact ⟨h1, h2, h3, h4, h5⟩
      · rename_i ht; exact ⟨h1, Nat.mod_lt _ hpos, h3, fun hr => absurd (ht ▸ hr) (by decide), h5⟩
      · rename_i ht
        split
        · exact ⟨h1, Nat.mod_lt _ hpos, h3, fun hr => absurd (ht ▸ hr) (by decide), h5⟩
        · exact ⟨h1, h2, h3, h4, h5⟩
      · rename_i ht; exact ⟨h1, Nat.mod_lt _ hpos, h3, fun hr => absurd (ht ▸ hr) (by decide), h5⟩
    · split
      · unfold changeRamBank
        split
        · exact ⟨h1, h2, h3, h4, h5⟩
        · exact ⟨h1, h2, h3, h4, h5⟩
        · rename_i ht
          split
          · exact ⟨h1, h2, Nat.mod_lt _ hmax, fun hr => absurd (ht ▸ hr) (by decide), h5⟩
          · exact ⟨h1, Nat.mod_lt _ hpos, h3, fun hr => absurd (ht ▸ hr) (by decide), h5⟩
        · rename_i ht; exact ⟨h1, h2, Nat.mod_lt _ hmax, fun hr => absurd (ht ▸ hr) (by decide), h5⟩
      · unfold changeMode
        split
        · exact ⟨h1, h2, h3, h4, h5⟩
        · exact ⟨h1, h2, h3, h4, h5⟩
        · exact ⟨h1, h2, h3, h4, h5⟩
        · rename_i ht
          split
          · exact ⟨h1, Nat.mod_lt _ hpos, h3, fun hr => absurd (ht ▸ hr) (by decide), fun _ => ht⟩
          · exact ⟨h1, h2, hmax, h4, fun hm => nomatch hm⟩

end Sys2Proof.Machine
end

