-- ==== Sys2Proof/Laws/Legal.lean ====
section
/-! SUPPORT. Each shared operation of the machine keeps the state legal, and what it leaves alone: one lemma per operation,
which proofs about instructions and steps cite instead of unfolding it. -/

namespace Sys2Proof.Machine

/-! ### The CPU's operations -/

theorem legal_withCpu (f : Cpu → Cpu) (s : State) (h : Legal s) (hf : CpuOk s.par (f s.cpu)) : Legal (withCpu f s) :=
  { h with cpu := hf }

theorem legal_timerAdvance (n : Nat) (s : State) (h : Legal s) : Legal (timerAdvance n s) :=
  { h with
    irq := timerTicks_irqOk n (s.timer, s.irq) h.irq
    timer := timerTicks_ok n (s.timer, s.irq) h.timer }

theorem legal_charged (n : Nat) (s : State) (h : Legal s) : Legal { s with charged := n } := { h with }

theorem legal_busTick (s : State) (h : Legal s) : Legal (busTick s) :=
  legal_charged _ _ (legal_timerAdvance 4 s h)

theorem legal_finish (c : Nat) (s : State) (h : Legal s) : Legal (finish c s) :=
  legal_charged _ _ (legal_timerAdvance _ s h)

theorem mask30 (v : Byte) : (v &&& 0x30#8) &&& 0xCF#8 = 0x00#8 := by rw [BitVec.and_assoc]; simp

theorem mask1F (v : Byte) : (v &&& 0x1F#8) &&& 0xE0#8 = 0x00#8 := by rw [BitVec.and_assoc]; simp

theorem dmaCycles_pos {par : Params} (h : par.wellFormed = true) : 1 ≤ par.dmaCycles := by
  simp only [Params.wellFormed, Bool.and_eq_true, decide_eq_true_eq] at h
  exact h.1.1.1.2

theorem samplePeriod_pos {par : Params} (h : par.wellFormed = true) : 1 ≤ par.samplePeriod := by
  simp only [Params.wellFormed, Bool.and_eq_true, decide_eq_true_eq] at h
  exact h.1.1.2

theorem audioBuf_pos {par : Params} (h : par.wellFormed = true) : 1 ≤ par.audioBufSamples := by
  simp only [Params.wellFormed, Bool.and_eq_true, decide_eq_true_eq] at h
  omega

theorem legal_ioWrite (r : IoReg) (a : Nat) (v : Byte) (s : State) (h : Legal s) : Legal (ioWrite r a v s) := by
  have hi := ioWrite_images r a v s h.mem h.xram
  have hp := h.apu.pulse1
  have hq := h.apu.pulse2
  have hw := h.apu.wave
  have hn := h.apu.noise
  have hu := h.ppu
  have sound : ∀ b : Apu, ApuOk s.par b → Legal { s with apu := b } := fun b hb => { h with apu := hb }
  have picture : ∀ p : Ppu, PpuOk p → Legal { s with ppu := p } := fun p hp => { h with ppu := hp }
  cases r
  case p1 => exact { h with p1 := mask30 v }
  case sc => unfold ioWrite writeSc; dsimp only; split <;> exact { h with }
  case div => exact { h with timer := ⟨h.timer.below, h.timer.off⟩ }
  case tima => exact { h with timer := ⟨h.timer.below, h.timer.off⟩ }
  case tma => exact { h with timer := ⟨h.timer.below, h.timer.off⟩ }
  case tac => exact { h with timer := ⟨timerPeriod_pos v, fun _ => rfl⟩ }
  case irqFlag => exact { h with irq := ⟨mask1F v⟩ }
  case nr10 => exact sound _ (apuOk_parts h.apu hp hq ⟨h.apu.sweep.timer, h.apu.sweep.shadow⟩ hw hn rfl rfl rfl)
  case nr11 => exact sound _ (apuOk_parts h.apu (write1_ok v _ hp) hq h.apu.sweep hw hn rfl rfl rfl)
  case nr12 => exact sound _ (apuOk_parts h.apu ⟨hp.duty, hp.length, hp.env, hp.vol⟩ hq h.apu.sweep hw hn rfl rfl rfl)
  case nr13 => exact sound _ (apuOk_parts h.apu ⟨hp.duty, hp.length, hp.env, hp.vol⟩ hq h.apu.sweep hw hn rfl rfl rfl)
  case nr14 => exact sound _ (write14_ok v _ h.apu)
  case nr21 => exact sound _ (apuOk_parts h.apu hp (write1_ok v _ hq) h.apu.sweep hw hn rfl rfl rfl)
  case nr22 => exact sound _ (apuOk_parts h.apu hp ⟨hq.duty, hq.length, hq.env, hq.vol⟩ h.apu.sweep hw hn rfl rfl rfl)
  case nr23 => exact sound _ (apuOk_parts h.apu hp ⟨hq.duty, hq.length, hq.env, hq.vol⟩ h.apu.sweep hw hn rfl rfl rfl)
  case nr24 => exact sound _ (apuOk_parts h.apu hp (write24_ok v _ hq) h.apu.sweep hw hn rfl rfl rfl)
  case nr30 => exact sound _ (apuOk_parts h.apu hp hq h.apu.sweep ⟨hw.pos, hw.length⟩ hn rfl rfl rfl)
  case nr31 => exact sound _ (apuOk_parts h.apu hp hq h.apu.sweep (write31_ok v _ hw) hn rfl rfl rfl)
  case nr32 => exact sound _ (apuOk_parts h.apu hp hq h.apu.sweep ⟨hw.pos, hw.length⟩ hn rfl rfl rfl)
  case nr33 => exact sound _ (apuOk_parts h.apu hp hq h.apu.sweep ⟨hw.pos, hw.length⟩ hn rfl rfl rfl)
  case nr34 => exact sound _ (apuOk_parts h.apu hp hq h.apu.sweep (write34_ok v _ hw) hn rfl rfl rfl)
  case nr41 => exact sound _ (apuOk_parts h.apu hp hq h.apu.sweep hw (write41_ok v _ hn) rfl rfl rfl)
  case nr42 => exact sound _ (apuOk_parts h.apu hp hq h.apu.sweep hw ⟨hn.length, hn.env, hn.vol⟩ rfl rfl rfl)
  case nr43 => exact sound _ (apuOk_parts h.apu hp hq h.apu.sweep hw ⟨hn.length, hn.env, hn.vol⟩ rfl rfl rfl)
  case nr44 => exact sound _ (apuOk_parts h.apu hp hq h.apu.sweep hw (write44_ok v _ hn) rfl rfl rfl)
  case nr50 => exact sound _ (apuOk_parts h.apu hp hq h.apu.sweep hw hn rfl rfl rfl)
  case nr51 => exact sound _ (apuOk_parts h.apu hp hq h.apu.sweep hw hn rfl rfl rfl)
  case nr52 => exact sound _ (write52_ok v _ h.apu)
  case waveRam =>
    unfold ioWrite at hi ⊢; dsimp only at hi ⊢; split
    · exact h
    · exact { h with mem := storeMem_wf a v s h.mem }
  case lcdc => exact picture _ (writeLcdc_ok v _ hu)
  case ly => exact picture _ (writeLy_ok _ hu)
  case dma => exact { h with dma := ⟨fun _ => dmaCycles_pos h.par⟩, mem := startDma_wf v s h.mem }
  case boot => exact { h with mem := storeMem_wf a v { s with bootOverlay := false } h.mem }
  case plain => exact { h with mem := storeMem_wf a v s h.mem }
  all_goals first
    | exact { h with }
    | exact picture _ ⟨hu.line, hu.budgetLow, hu.budgetHigh, hu.rows, hu.width, hu.codeRows, hu.codeWidth⟩

theorem legal_cpuWrite (a : Word) (v : Byte) (s : State) (h : Legal s) : Legal (cpuWrite a v s) := by
  unfold cpuWrite
  split
  · exact h
  · split
    · exact h
    · unfold routeWrite
      split
      case h_1 => exact { h with mbc := mbcWrite_ok a v _ h.mbc }
      case h_2 => exact { h with mbc := mbcWrite_ok a v _ h.mbc }
      case h_4 => exact { h with xram := xramWrite_wf _ _ _ _ h.xram }
      case h_8 => exact h
      case h_9 => exact legal_ioWrite _ _ v s h
      case h_11 => exact { h with irq := ⟨h.irq.request⟩ }
      all_goals exact { h with mem := storeMem_wf _ v s h.mem }

theorem legal_memWrite (a : Word) (v : Byte) (s : State) (h : Legal s) : Legal (memWrite a v s) :=
  legal_cpuWrite a v _ (legal_busTick s h)

theorem legal_memRead (a : Word) (s : State) (h : Legal s) : Legal (memRead a s).2 := legal_busTick s h

theorem cpuOk_of_eq {par : Params} {u v : Cpu} (h : CpuOk par u) (hf : v.f = u.f) (he : v.eiPending = u.eiPending)
    (hi : u.ime = false → v.ime = false := by exact id) : CpuOk par v :=
  ⟨hf ▸ h.flags, he ▸ h.latch, fun hp => hi (h.waiting (he ▸ hp))⟩

theorem legal_setSp (v : Word) (s : State) (h : Legal s) : Legal (setSp v s) :=
  legal_withCpu _ s h (cpuOk_of_eq h.cpu rfl rfl)

theorem legal_setPc (v : Word) (s : State) (h : Legal s) : Legal (setPc v s) :=
  legal_withCpu _ s h (cpuOk_of_eq h.cpu rfl rfl)

theorem legal_pushByte (v : Byte) (s : State) (h : Legal s) : Legal (pushByte v s) :=
  legal_memWrite _ v _ (legal_setSp _ s h)

theorem legal_push16 (v : Word) (s : State) (h : Legal s) : Legal (push16 v s) :=
  legal_pushByte _ _ (legal_pushByte _ s h)

theorem legal_popByte (s : State) (h : Legal s) : Legal (popByte s).2 :=
  legal_setSp _ _ (legal_memRead _ s h)

theorem legal_pop16 (s : State) (h : Legal s) : Legal (pop16 s).2 :=
  legal_popByte _ (legal_popByte s h)

theorem legal_takeInterrupt (n : Source) (s : State) (h : Legal s) : Legal (takeInterrupt n s) := by
  unfold takeInterrupt
  refine legal_finish _ _ (legal_setPc _ _ (legal_push16 _ _ ?_))
  exact { h with cpu := cpuOk_of_eq h.cpu rfl rfl fun _ => rfl, irq := acknowledge_irqOk n _ h.irq }

theorem legal_popPc (s : State) (h : Legal s) : Legal (popPc s) := legal_setPc _ _ (legal_pop16 s h)

theorem legal_returnFromInterrupt (s : State) (h : Legal s) : Legal (returnFromInterrupt s) := by
  unfold returnFromInterrupt
  exact legal_withCpu _ _ (legal_popPc s h) ⟨(legal_popPc s h).cpu.flags, fun hf => by simp at hf, fun hf => by simp at hf⟩

theorem legal_fetchOpcode (s : State) (h : Legal s) : Legal (fetchOpcode s).2 := by
  unfold fetchOpcode
  dsimp only
  apply legal_withCpu
  · exact legal_memRead _ s h
  · split <;> exact cpuOk_of_eq h.cpu rfl rfl

theorem legal_fetch8 (s : State) (h : Legal s) : Legal (fetch8 s).2 := by
  unfold fetch8
  dsimp only
  apply legal_withCpu
  · exact legal_memRead _ s h
  · exact cpuOk_of_eq h.cpu rfl rfl

theorem legal_fetchInstr (s : State) (h : Legal s) : Legal (fetchInstr s).2 := by
  unfold fetchInstr
  dsimp only
  split
  · exact legal_fetchOpcode s h
  · exact legal_fetch8 _ (legal_fetchOpcode s h)
  · exact legal_fetch8 _ (legal_fetch8 _ (legal_fetchOpcode s h))

/-! ### The peers and the host -/

theorem iterate_ppuTick_ok (mem : Memory) (n : Nat) (x : Ppu × Irq) (h : PpuOk x.1) (hq : IrqOk x.2) :
    PpuOk (iterate (ppuTick mem) n x).1 ∧ IrqOk (iterate (ppuTick mem) n x).2 :=
  iterate_keeps (fun y => PpuOk y.1 ∧ IrqOk y.2) (ppuTick mem) (fun y hy => ppuTick_ok mem y hy.1 hy.2) n x ⟨h, hq⟩

theorem legal_ppuAdvance (c : Nat) (s : State) (h : Legal s) : Legal (ppuAdvance c s) :=
  have hx := iterate_ppuTick_ok s.mem c (s.ppu, s.irq) h.ppu h.irq
  { h with ppu := hx.1, irq := hx.2 }

theorem legal_apuAdvance (c : Nat) (s : State) (h : Legal s) : Legal (apuAdvance c s) :=
  { h with
    apu := iterate_keeps (ApuOk s.par) (Apu.tick s.par s.mem)
      (fun a ha => apuTick_ok s.mem a ha (samplePeriod_pos h.par) (audioBuf_pos h.par)) c s.apu h.apu }

theorem legal_dmaAdvance (c : Nat) (s : State) (h : Legal s) : Legal (dmaAdvance c s) := by
  unfold dmaAdvance
  split
  · exact { h with dma := ⟨fun ha => by simpa using ha⟩ }
  · exact h

theorem legal_feedPeers (s : State) (h : Legal s) : Legal (feedPeers s) :=
  legal_charged 0 _ (legal_dmaAdvance _ _ (legal_apuAdvance _ _ (legal_ppuAdvance _ _ h)))

@[simp] theorem feedPeers_charged (s : State) : (feedPeers s).charged = 0 := rfl

theorem legal_wake (s : State) (h : Legal s) : Legal (wake s) :=
  legal_withCpu _ s h (cpuOk_of_eq h.cpu rfl rfl)

theorem legal_serviceInterrupts (s : State) (h : Legal s) : Legal (serviceInterrupts s) := by
  unfold serviceInterrupts
  split
  · exact h
  · split
    · exact legal_feedPeers _ (legal_takeInterrupt _ _ (legal_wake s h))
    · exact legal_wake s h

theorem legal_hostAction (s : State) (act : HostAction) (h : Legal s) : Legal (hostAction s act) := by
  unfold hostAction
  split
  · exact h
  · split
    · unfold setJoypad
      dsimp only
      split
      · exact { h with }
      · exact { h with irq := raise_irqOk _ _ h.irq }
    · split
      · exact { h with }
      · exact h
    · split
      · exact { h with }
      · exact h
    · exact { h with }
    · exact { h with
        ppu := ⟨h.ppu.line, h.ppu.budgetLow, h.ppu.budgetHigh, h.ppu.rows, h.ppu.width, h.ppu.codeRows, h.ppu.codeWidth⟩ }
    · have ha := h.apu
      exact { h with
        apu := ⟨ha.pulse1, ha.pulse2, ha.sweep, ha.wave, ha.noise, ha.nr52, ha.counter, ha.step, ha.acc, ha.buf⟩ }
    · exact h
    · exact h

theorem legal_hostTurn (s : State) (h : Legal s) : Legal (hostTurn s) := by
  unfold hostTurn
  split
  · exact h
  · rename_i acts rest heq
    clear heq
    have h0 : Legal { s with port := { s.port with script := rest } } := { h with }
    revert h0
    generalize ({ s with port := { s.port with script := rest } } : State) = t
    intro h0
    induction acts generalizing t with
    | nil => exact h0
    | cons act acts ih => exact ih _ (legal_hostAction t act h0)

theorem hostAction_charged (s : State) (act : HostAction) : (hostAction s act).charged = s.charged := by
  unfold hostAction
  split
  · rfl
  · split <;> (try split) <;> try rfl
    unfold setJoypad; dsimp only; split <;> rfl

theorem hostTurn_charged (s : State) : (hostTurn s).charged = s.charged := by
  unfold hostTurn
  split
  · rfl
  · rename_i acts rest _
    suffices H : ∀ (l : List HostAction) (t : State), (l.foldl hostAction t).charged = t.charged from H acts _
    intro l
    induction l with
    | nil => intro t; rfl
    | cons act l ih => intro t; exact (ih _).trans (hostAction_charged t act)

end Sys2Proof.Machine
end

