-- ==== Sys2Proof/Laws/Exec.lean ====
section
/-! SUPPORT. What an instruction can do to a legal state: it leaves a legal one. -/

namespace Sys2Proof.Machine

theorem packFlags_low (z n h c : Bool) : packFlags z n h c &&& 0x0F#8 = 0x00#8 := by
  cases z <;> cases n <;> cases h <;> cases c <;> decide

theorem aluOp_low (op : AluOp) (a v f : Byte) : (aluOp op a v f).2 &&& 0x0F#8 = 0x00#8 := by
  cases op <;> exact packFlags_low _ _ _ _

theorem set8_ok {par : Params} (r : Reg8) (v : Byte) (u : Cpu) (h : CpuOk par u) : CpuOk par (u.set8 r v) := by
  cases r <;> exact cpuOk_of_eq h rfl rfl
theorem set16_ok {par : Params} (r : Reg16) (v : Word) (u : Cpu) (h : CpuOk par u) : CpuOk par (u.set16 r v) := by
  cases r <;> exact cpuOk_of_eq h rfl rfl
theorem setStack_ok {par : Params} (r : StackPair) (v : Word) (u : Cpu) (h : CpuOk par u) : CpuOk par (u.setStack r v) := by
  cases r
  case af => exact ⟨by simp [Cpu.setStack, Cpu.setAf, BitVec.and_assoc], h.latch, h.waiting⟩
  all_goals exact cpuOk_of_eq h rfl rfl

theorem legal_setReg8 (r : Reg8) (v : Byte) (s : State) (h : Legal s) : Legal (setReg8 r v s) :=
  legal_withCpu _ s h (set8_ok r v _ h.cpu)
theorem legal_setA (v : Byte) (s : State) (h : Legal s) : Legal (setA v s) :=
  legal_withCpu _ s h (cpuOk_of_eq h.cpu rfl rfl)
theorem legal_setF (v : Byte) (s : State) (h : Legal s) (hv : v &&& 0x0F#8 = 0#8) : Legal (setF v s) :=
  legal_withCpu _ s h ⟨hv, h.cpu.latch, h.cpu.waiting⟩
theorem legal_setAF (v : Byte × Byte) (s : State) (h : Legal s) (hv : v.2 &&& 0x0F#8 = 0#8) : Legal (setAF v s) :=
  legal_withCpu _ s h ⟨hv, h.cpu.latch, h.cpu.waiting⟩

/-- If the outcome is a next state, it is legal. -/
def LegalNext (x : Result) : Prop := ∀ t, x = .next t → Legal t
theorem ln_complete (c : Nat) (s : State) (h : Legal s) : LegalNext (complete c s) := by
  intro t ht; cases ht; exact legal_finish c s h
theorem ln_when (cc a b f s) (h : Legal s) (hf : Legal (f s)) : LegalNext (whenCond cc a b f s) := by
  unfold whenCond; split <;> exact ln_complete _ _ ‹_›
theorem legal_callTo (a s) (h : Legal s) : Legal (callTo a s) := legal_setPc _ _ (legal_push16 _ _ h)
theorem legal_jumpBy (a s) (h : Legal s) : Legal (jumpBy a s) := legal_setPc _ _ h
theorem legal_stepHl (a s) (h : Legal s) : Legal (stepHl a s) := legal_withCpu _ _ h (cpuOk_of_eq h.cpu rfl rfl)

theorem ln_loadA (c a s) (h : Legal s) : LegalNext (loadA c a s) := ln_complete _ _ (legal_setA _ _ (legal_memRead _ _ h))
theorem ln_storeA (c a s) (h : Legal s) : LegalNext (storeA c a s) := ln_complete _ _ (legal_memWrite _ _ _ h)
theorem ln_storeAStep (d s) (h : Legal s) : LegalNext (storeAStep d s) := ln_complete _ _ (legal_stepHl _ _ (legal_memWrite _ _ _ h))
theorem ln_loadAStep (d s) (h : Legal s) : LegalNext (loadAStep d s) := ln_complete _ _ (legal_stepHl _ _ (legal_setA _ _ (legal_memRead _ _ h)))
theorem ln_stepPair (p d s) (h : Legal s) : LegalNext (stepPair p d s) := ln_complete _ _ (legal_withCpu _ _ h (set16_ok _ _ _ h.cpu))
theorem ln_rotA (op s) (h : Legal s) : LegalNext (rotA op s) := ln_complete _ _ (legal_setAF _ _ h (packFlags_low _ _ _ _))
theorem ln_changeMem (f s) (h : Legal s) : LegalNext (changeMem f s) := ln_complete _ _ (legal_memWrite _ _ _ (legal_memRead _ _ h))
theorem ln_stepMem (f : Byte → Byte → Byte × Byte) (hf : ∀ a b, (f a b).2 &&& 0x0F#8 = 0#8) (s) (h : Legal s) : LegalNext (stepMem f s) :=
  ln_complete _ _ (legal_setF _ _ (legal_memWrite _ _ _ (legal_memRead _ _ h)) (hf _ _))

theorem legal_exec (i : Instr) (s : State) (h : Legal s) : LegalNext (exec i s) := by
  cases form_of i
  case ldRegReg => rw [exec_ldRegReg]; exact ln_complete _ _ (legal_setReg8 _ _ _ h)
  case ldRegImm => rw [exec_ldRegImm]; exact ln_complete _ _ (legal_setReg8 _ _ _ h)
  case ldRegHl => rw [exec_ldRegHl]; exact ln_complete _ _ (legal_setReg8 _ _ _ (legal_memRead _ _ h))
  case ldHlReg => rw [exec_ldHlReg]; exact ln_complete _ _ (legal_memWrite _ _ _ h)
  case ldPairImm => rw [exec_ldPairImm]; exact ln_complete _ _ (legal_withCpu _ _ h (set16_ok _ _ _ h.cpu))
  case pushPair => rw [exec_pushPair]; exact ln_complete _ _ (legal_push16 _ _ h)
  case popPair => rw [exec_popPair]; exact ln_complete _ _ (legal_withCpu _ _ (legal_pop16 _ h) (setStack_ok _ _ _ (legal_pop16 _ h).cpu))
  case aluReg => rw [exec_aluReg]; exact ln_complete _ _ (legal_setAF _ _ h (aluOp_low _ _ _ _))
  case aluHl => rw [exec_aluHl]; exact ln_complete _ _ (legal_setAF _ _ (legal_memRead _ _ h) (aluOp_low _ _ _ _))
  case aluImm => rw [exec_aluImm]; exact ln_complete _ _ (legal_setAF _ _ h (aluOp_low _ _ _ _))
  case incReg => rw [exec_incReg]; exact ln_complete _ _ (legal_setF _ _ (legal_setReg8 _ _ _ h) (packFlags_low _ _ _ _))
  case decReg => rw [exec_decReg]; exact ln_complete _ _ (legal_setF _ _ (legal_setReg8 _ _ _ h) (packFlags_low _ _ _ _))
  case addHlPair => rw [exec_addHlPair]; exact ln_complete _ _ (legal_withCpu _ _ h ⟨packFlags_low _ _ _ _, h.cpu.latch, h.cpu.waiting⟩)
  case incPair => rw [exec_incPair]; exact ln_stepPair _ _ _ h
  case decPair => rw [exec_decPair]; exact ln_stepPair _ _ _ h
  case rotReg => rw [exec_rotReg]; exact ln_complete _ _ (legal_setF _ _ (legal_setReg8 _ _ _ h) (packFlags_low _ _ _ _))
  case rotHl => rw [exec_rotHl]; exact ln_complete _ _ (legal_setF _ _ (legal_memWrite _ _ _ (legal_memRead _ _ h)) (packFlags_low _ _ _ _))
  case bitReg => rw [exec_bitReg]; exact ln_complete _ _ (legal_setF _ _ h (packFlags_low _ _ _ _))
  case bitHl => rw [exec_bitHl]; exact ln_complete _ _ (legal_setF _ _ (legal_memRead _ _ h) (packFlags_low _ _ _ _))
  case resReg => rw [exec_resReg]; exact ln_complete _ _ (legal_setReg8 _ _ _ h)
  case resHl => rw [exec_resHl]; exact ln_changeMem _ _ h
  case setReg => rw [exec_setReg]; exact ln_complete _ _ (legal_setReg8 _ _ _ h)
  case setHl => rw [exec_setHl]; exact ln_changeMem _ _ h
  case jpCond => rw [exec_jpCond]; exact ln_when _ _ _ _ _ h (legal_setPc _ _ h)
  case jrCond => rw [exec_jrCond]; exact ln_when _ _ _ _ _ h (legal_jumpBy _ _ h)
  case callCond => rw [exec_callCond]; exact ln_when _ _ _ _ _ h (legal_callTo _ _ h)
  case retCond => rw [exec_retCond]; exact ln_when _ _ _ _ _ h (legal_popPc _ h)
  case rstTo => rw [exec_rstTo]; exact ln_complete _ _ (legal_callTo _ _ h)
  case stop => intro t ht; cases ht
  case nop => exact ln_complete _ _ h
  case ld_mBc_a => exact ln_storeA _ _ _ h
  case rlca => exact ln_rotA _ _ h
  case ld_mNn_sp => exact ln_complete _ _ (legal_memWrite _ _ _ (legal_memWrite _ _ _ h))
  case ld_a_mBc => exact ln_loadA _ _ _ h
  case rrca => exact ln_rotA _ _ h
  case ld_mDe_a => exact ln_storeA _ _ _ h
  case rla => exact ln_rotA _ _ h
  case jr_e => exact ln_complete _ _ (legal_jumpBy _ _ h)
  case ld_a_mDe => exact ln_loadA _ _ _ h
  case rra => exact ln_rotA _ _ h
  case ld_mHli_a => exact ln_storeAStep _ _ h
  case daa => exact ln_complete _ _ (legal_setAF _ _ h (packFlags_low _ _ _ _))
  case ld_a_mHli => exact ln_loadAStep _ _ h
  case cpl => exact ln_complete _ _ (legal_setAF _ _ h (packFlags_low _ _ _ _))
  case ld_mHld_a => exact ln_storeAStep _ _ h
  case inc_mHl => exact ln_stepMem inc8 (fun _ _ => packFlags_low _ _ _ _) _ h
  case dec_mHl => exact ln_stepMem dec8 (fun _ _ => packFlags_low _ _ _ _) _ h
  case ld_mHl_n => exact ln_complete _ _ (legal_memWrite _ _ _ h)
  case scf => exact ln_complete _ _ (legal_setF _ _ h (packFlags_low _ _ _ _))
  case ld_a_mHld => exact ln_loadAStep _ _ h
  case ccf => exact ln_complete _ _ (legal_setF _ _ h (packFlags_low _ _ _ _))
  case halt =>
    refine ln_complete _ _ ?_
    unfold haltEffect; split <;> exact legal_withCpu _ _ h (cpuOk_of_eq h.cpu rfl rfl)
  case jp_nn => exact ln_complete _ _ (legal_setPc _ _ h)
  case ret => exact ln_complete _ _ (legal_popPc _ h)
  case call_nn => exact ln_complete _ _ (legal_callTo _ _ h)
  case reti => exact ln_complete _ _ (legal_returnFromInterrupt _ h)
  case ldh_mN_a => exact ln_storeA _ _ _ h
  case ldh_mC_a => exact ln_storeA _ _ _ h
  case add_sp_e => exact ln_complete _ _ (by unfold addToSp; exact legal_withCpu _ _ h ⟨packFlags_low _ _ _ _, h.cpu.latch, h.cpu.waiting⟩)
  case jp_hl => exact ln_complete _ _ (legal_setPc _ _ h)
  case ld_mNn_a => exact ln_storeA _ _ _ h
  case ldh_a_mN => exact ln_loadA _ _ _ h
  case ldh_a_mC => exact ln_loadA _ _ _ h
  case di => exact ln_complete _ _ (legal_withCpu _ _ h ⟨h.cpu.flags, fun hh => by simp at hh, fun _ => rfl⟩)
  case ld_hl_spE => exact ln_complete _ _ (by unfold loadHlSp; exact legal_withCpu _ _ h ⟨packFlags_low _ _ _ _, h.cpu.latch, h.cpu.waiting⟩)
  case ld_sp_hl => exact ln_complete _ _ (legal_setSp _ _ h)
  case ld_a_mNn => exact ln_loadA _ _ _ h
  case ei =>
    refine ln_complete _ _ ?_
    unfold enableInterrupts; split
    · exact h
    · rename_i hime
      split
      · exact legal_withCpu _ _ h ⟨h.cpu.flags, fun _ => ‹_›, fun _ => by simpa using hime⟩
      · exact legal_withCpu _ _ h ⟨h.cpu.flags, h.cpu.latch, fun hp => absurd (h.cpu.latch hp) ‹_›⟩
  all_goals exact ln_complete _ _ h

end Sys2Proof.Machine
end

