-- ==== Sys2Proof/Laws/Load.lean ====
section
/-! SUPPORT. What a read of the stored images and a CPU read depend on: not the CPU registers, not the cycle counter, and
of the timer and the interrupt requests only at their own addresses. -/

namespace Sys2Proof.Machine

@[simp] theorem ioStored_cpu (r : IoReg) (a : Nat) (s : State) (u : Cpu) :
    ioStored r a { s with cpu := u } = ioStored r a s := by cases r <;> rfl

@[simp] theorem ioRead_cpu (r : IoReg) (a : Nat) (s : State) (u : Cpu) :
    ioRead r a { s with cpu := u } = ioRead r a s := by cases r <;> rfl

/-- The images do not hold the CPU registers. -/
@[simp] theorem load_cpu (a : Nat) (s : State) (u : Cpu) : load a { s with cpu := u } = load a s := by
  simp only [load, ioStored_cpu]

/-- A CPU read depends on no CPU register. -/
@[simp] theorem cpuRead_cpu (a : Word) (s : State) (u : Cpu) : cpuRead a { s with cpu := u } = cpuRead a s := by
  unfold cpuRead debugPeek
  rw [load_cpu, ioRead_cpu]
  rfl

/-- The charge of an access leaves the CPU registers alone. -/
theorem busTick_withCpu (s : State) (u : Cpu) : busTick { s with cpu := u } = { busTick s with cpu := u } := rfl

/-- The fields of the state that `load` reads agree, but for DIV, TIMA and IF. -/
structure SameImages (s t : State) : Prop where
  mem : t.mem = s.mem
  xram : t.xram = s.xram
  cart : t.cart = s.cart
  mbc : t.mbc = s.mbc
  p1 : t.p1 = s.p1
  sb : t.sb = s.sb
  sc : t.sc = s.sc
  ppu : t.ppu = s.ppu
  apu : t.apu = s.apu
  dma : t.dma.reg = s.dma.reg
  enable : t.irq.enable = s.irq.enable
  tma : t.timer.tma = s.timer.tma
  tac : t.timer.tac = s.timer.tac

theorem SameImages.refl (s : State) : SameImages s s := ⟨rfl, rfl, rfl, rfl, rfl, rfl, rfl, rfl, rfl, rfl, rfl, rfl, rfl⟩

theorem SameImages.trans {s t u : State} (h : SameImages s t) (k : SameImages t u) : SameImages s u :=
  ⟨k.mem.trans h.mem, k.xram.trans h.xram, k.cart.trans h.cart, k.mbc.trans h.mbc, k.p1.trans h.p1, k.sb.trans h.sb,
   k.sc.trans h.sc, k.ppu.trans h.ppu, k.apu.trans h.apu, k.dma.trans h.dma, k.enable.trans h.enable, k.tma.trans h.tma,
   k.tac.trans h.tac⟩

theorem ioRegAt_time (off : Nat) (h : off < 0x80) (h4 : off ≠ 4) (h5 : off ≠ 5) (h15 : off ≠ 15) :
    ioRegAt off ≠ .div ∧ ioRegAt off ≠ .tima ∧ ioRegAt off ≠ .irqFlag := by
  interval_cases off <;> first | contradiction | exact ⟨by decide, by decide, by decide⟩

/-- The register at an I/O address is none of DIV, TIMA, IF unless the address is theirs. -/
theorem ioRegOf_time (a : Nat) (hr : regionOf a = .io) (ht : timeByte a = false) :
    ioRegOf a ≠ .div ∧ ioRegOf a ≠ .tima ∧ ioRegOf a ≠ .irqFlag := by
  have hlo : 0xFF00 ≤ a := by
    by_contra h
    revert hr; unfold regionOf
    repeat' split
    all_goals first | omega | (intro hh; cases hh)
  have hhi : a < 0xFF80 := by
    by_contra h
    revert hr; unfold regionOf
    repeat' split
    all_goals first | omega | (intro hh; cases hh)
  obtain ⟨off, rfl⟩ := Nat.exists_eq_add_of_le hlo
  have hoff : off < 0x80 := by omega
  have e : ioRegOf (0xFF00 + off) = ioRegAt off := by rw [ioRegOf, Nat.add_sub_cancel_left]
  rw [e]
  simp only [timeByte, Bool.or_eq_false_iff, beq_eq_false_iff_ne] at ht
  exact ioRegAt_time off hoff (by omega) (by omega) (by omega)

/-- Equal images read the same everywhere but at DIV, TIMA and IF. -/
theorem SameImages.load {s t : State} (h : SameImages s t) (b : Nat) (hb : timeByte b = false) :
    Machine.load b t = Machine.load b s := by
  unfold Machine.load
  split
  · rw [h.cart]
  · rw [h.cart, h.mbc]
  · rw [h.mem]
  · rw [h.mbc, h.xram]
  · rw [h.mem]
  · rw [h.mem]
  · rw [h.mem]
  · rfl
  · rename_i hr
    obtain ⟨h1, h2, h3⟩ := ioRegOf_time b hr hb
    generalize ioRegOf b = r at h1 h2 h3
    have hm := h.mem; have hp := h.p1; have hsb := h.sb; have hsc := h.sc; have hpp := h.ppu; have ha := h.apu
    have hd := h.dma; have ht := h.tma; have htc := h.tac
    cases r <;> first
      | exact absurd rfl h1
      | exact absurd rfl h2
      | exact absurd rfl h3
      | (simp only [ioStored]; simp only [hm, hp, hsb, hsc, hpp, ha, hd, ht, htc])
  · rw [h.mem]
  · rw [h.enable]

/-- The passing of cycles changes no image. -/
theorem sameImages_timerAdvance (n : Nat) (s : State) : SameImages s (timerAdvance n s) := by
  have h := timerTicks_frame n (s.timer, s.irq)
  constructor <;> first | rfl | exact h.1 | exact h.2.1 | exact h.2.2.1

end Sys2Proof.Machine
end

