-- ==== Sys2Proof/Laws/Frame.lean ====
section
/-! SUPPORT. Which bytes a CPU write changes, as a read of the stored images shows it: none but those `writeReaches` names
(spec/20_memory.md R85, R93, R95, spec/10_state.md R31 to R46). -/

namespace Sys2Proof.Machine

/-! ### A read of an I/O register after a change elsewhere -/
theorem ioStored_mem (r a) (s : State) (m : Memory) (h : Memory.read m a = Memory.read s.mem a) :
    ioStored r a { s with mem := m } = ioStored r a s := by
  cases r <;> first | exact h | rfl

theorem ioStored_overlay (r a) (s : State) (m) : ioStored r a { s with bootOverlay := m } = ioStored r a s :=
    by cases r <;> rfl

theorem ioStored_dma (r a) (s : State) (m) (h : r ≠ .dma): ioStored r a { s with dma := m } = ioStored r a s :=
    by cases r <;> first | rfl | exact absurd rfl h

theorem ioStored_port (r a) (s : State) (m) : ioStored r a { s with port := m } = ioStored r a s := by cases r <;> rfl

theorem ioStored_sc (r a) (s : State) (m) (h : r ≠ .sc): ioStored r a { s with sc := m } = ioStored r a s :=
    by cases r <;> first | rfl | exact absurd rfl h

theorem dmaCopy_other (page : Nat) (s : State) (b : Nat) (hb : b < 0xFE00 ∨ 0xFEA0 ≤ b) : Memory.read
    (dmaCopy page s) b = Memory.read s.mem b := by
  unfold dmaCopy
  suffices H : ∀ (l : List Nat) (m : Memory), (∀ i ∈ l, i < 0xA0) →
      Memory.read (l.foldl (fun m i => Memory.write m (0xFE00 + i) (load (page * 0x100 + i) s)) m) b = Memory.read m b from
    H _ _ (fun i hi => List.mem_range.mp hi)
  intro l
  induction l with
  | nil => intro m _; rfl
  | cons i l ih =>
    intro m h
    rw [List.foldl_cons, ih _ (fun j hj => h j (List.mem_cons_of_mem _ hj))]
    have := h i (List.mem_cons_self ..)
    exact Memory.read_write_other _ _ _ _ (by omega)

/-- The register a field of the sound unit holds, as `ioStored` reads it. -/
def apuStored (r : IoReg) (x : Apu) : Option Byte :=
  match r with
  | .nr10 => some x.sweep.nr10
  | .nr11 => some x.pulse1.nr1
  | .nr12 => some x.pulse1.nr2
  | .nr13 => some x.pulse1.nr3
  | .nr14 => some x.pulse1.nr4
  | .nr21 => some x.pulse2.nr1
  | .nr22 => some x.pulse2.nr2
  | .nr23 => some x.pulse2.nr3
  | .nr24 => some x.pulse2.nr4
  | .nr30 => some x.wave.nr30
  | .nr31 => some x.wave.nr31
  | .nr32 => some x.wave.nr32
  | .nr33 => some x.wave.nr33
  | .nr34 => some x.wave.nr34
  | .nr41 => some x.noise.nr41
  | .nr42 => some x.noise.nr42
  | .nr43 => some x.noise.nr43
  | .nr44 => some x.noise.nr44
  | .nr50 => some x.nr50
  | .nr51 => some x.nr51
  | .nr52 => some x.nr52
  | _ => none

theorem ioStored_apu (q : IoReg) (b : Nat) (s : State) (x : Apu) (h : apuStored q x = apuStored q s.apu) :
    ioStored q b { s with apu := x } = ioStored q b s := by
  cases q <;> first | rfl | exact Option.some.inj h

theorem sweepCheck_keeps (q : IoReg) (x : Apu) : apuStored q x.sweepCheck = apuStored q x := by
  unfold Apu.sweepCheck
  split <;> cases q <;> rfl

theorem trigger1_keeps (q : IoReg) (x : Apu) : apuStored q x.trigger1 = apuStored q x := by
  unfold Apu.trigger1; dsimp only
  split
  · rw [sweepCheck_keeps]; cases q <;> rfl
  · cases q <;> rfl

theorem write14_keeps (q : IoReg) (v : Byte) (x : Apu) (h : q ≠ .nr14) : apuStored q (x.write14 v) = apuStored q x := by
  unfold Apu.write14; dsimp only
  split
  · rw [trigger1_keeps]; cases q <;> first | rfl | exact absurd rfl h
  · cases q <;> first | rfl | exact absurd rfl h

theorem write24_keeps (q : IoReg) (v : Byte) (x : Apu) (h : q ≠ .nr24) :
    apuStored q { x with pulse2 := x.pulse2.write4 v } = apuStored q x := by
  unfold Pulse.write4
  split <;> cases q <;> first | rfl | exact absurd rfl h

theorem write34_keeps (q : IoReg) (v : Byte) (x : Apu) (h : q ≠ .nr34) :
    apuStored q { x with wave := x.wave.write34 v } = apuStored q x := by
  unfold Wave.write34
  split <;> cases q <;> first | rfl | exact absurd rfl h

theorem write44_keeps (q : IoReg) (v : Byte) (x : Apu) (h : q ≠ .nr44) :
    apuStored q { x with noise := x.noise.write44 v } = apuStored q x := by
  unfold Noise.write44
  split <;> cases q <;> first | rfl | exact absurd rfl h

theorem write52_keeps (q : IoReg) (v : Byte) (x : Apu) (h : q ≠ .nr52) : apuStored q (x.write52 v) = apuStored q x := by
  unfold Apu.write52
  split <;> cases q <;> first | rfl | exact absurd rfl h

theorem writeLcdc_keeps (q : IoReg) (b : Nat) (v : Byte) (s : State) (h : q ≠ .lcdc) (h1 : q ≠ .stat) (h2 : q ≠ .ly) :
   ioStored q b { s with ppu := s.ppu.writeLcdc v} = ioStored q b s := by
  unfold Ppu.writeLcdc
  split <;> cases q <;> first | rfl | exact absurd rfl h | exact absurd rfl h1 | exact absurd rfl h2

theorem ioStored_ioWrite_a (q r : IoReg) (a b : Nat) (v : Byte) (s : State) (h : r = .p1 ∨ r = .sb ∨ r = .div ∨ r =
    .tima ∨ r = .tma ∨ r = .tac ∨ r = .irqFlag ∨ r = .stat ∨ r = .scy ∨ r = .scx ∨ r = .ly ∨ r = .lyc) (hq : q ≠ r) :
    ioStored q b (ioWrite r a v s) = ioStored q b s := by
  rcases h with rfl | rfl | rfl | rfl | rfl | rfl | rfl | rfl | rfl | rfl | rfl | rfl <;> cases q <;> first | rfl | exact absurd rfl hq

theorem ioStored_ioWrite_b (q r : IoReg) (a b : Nat) (v : Byte) (s : State) (h : r = .bgp ∨ r = .obp0 ∨ r = .obp1 ∨
    r = .wy ∨ r = .wx ∨ r = .nr10 ∨ r = .nr11 ∨ r = .nr12 ∨ r = .nr13 ∨ r = .nr21) (hq : q ≠ r) :
    ioStored q b (ioWrite r a v s) = ioStored q b s := by
  rcases h with rfl | rfl | rfl | rfl | rfl | rfl | rfl | rfl | rfl | rfl <;> cases q <;> first | rfl | exact absurd rfl hq

theorem ioStored_ioWrite_c (q r : IoReg) (a b : Nat) (v : Byte) (s : State) (h : r = .nr22 ∨ r = .nr23 ∨ r = .nr30 ∨
    r = .nr31 ∨ r = .nr32 ∨ r = .nr33 ∨ r = .nr41 ∨ r = .nr42 ∨ r = .nr43 ∨ r = .nr50 ∨ r = .nr51) (hq : q ≠ r) :
    ioStored q b (ioWrite r a v s) = ioStored q b s := by
  rcases h with rfl | rfl | rfl | rfl | rfl | rfl | rfl | rfl | rfl | rfl | rfl <;> cases q <;> first | rfl | exact absurd rfl hq

theorem ioStored_startDma (q : IoReg) (b : Nat) (v : Byte) (s : State) (hq : q ≠ .dma) (hb : 0xFEA0 ≤ b) :
    ioStored q b (startDma v s) = ioStored q b s := by
  have h2 : ∀ t : State, t.mem = s.mem → ∀ n, ioStored q b { t with mem := dmaCopy n t } = ioStored q b t :=
    fun t _ n => ioStored_mem q b t _ (dmaCopy_other n t b (.inr hb))
  exact (h2 { s with dma := { reg := v, active := true, elapsed := 0 } } rfl _).trans (ioStored_dma q b s _ hq)

theorem ioStored_writeSc (q : IoReg) (b : Nat) (v : Byte) (s : State) (hq : q ≠ .sc) :
    ioStored q b (writeSc v s) = ioStored q b s := by
  unfold writeSc
  split
  · exact (ioStored_port q b { s with sc := v } _).trans (ioStored_sc q b s v hq)
  · exact ioStored_sc _ _ _ _ hq

theorem ioStored_ioWrite (q r : IoReg) (a b : Nat) (v : Byte) (s : State) (hqr : q ≠ r ∨ q = .plain ∨ q = .waveRam)
   (hl : r = .lcdc → q ≠ .stat ∧ q ≠ .ly) (hne : b ≠ a) (hb : 0xFEA0 ≤ b) : ioStored q b (ioWrite r a v s) = ioStored q b s := by
  have hm : ∀ (s : State), ioStored q b (storeMem a v s) = ioStored q b s := fun s =>
    ioStored_mem q b s _ (Memory.read_write_other _ _ _ _ hne)
  by_cases hq : q = r
  · subst hq
    rcases hqr with h | rfl | rfl
    · exact absurd rfl h
    · exact hm s
    · unfold ioWrite; dsimp only; split; rfl; exact hm s
  cases r
  case plain => exact hm s
  case boot => exact (hm _).trans (ioStored_overlay ..)
  case waveRam => unfold ioWrite; dsimp only; split; rfl; exact hm s
  case dma => exact ioStored_startDma q b v s hq hb
  case sc => exact ioStored_writeSc q b v s hq
  case lcdc => exact writeLcdc_keeps q b v s hq (hl rfl).1 (hl rfl).2
  case nr14 => exact ioStored_apu _ _ _ _ (write14_keeps q v _ hq)
  case nr24 => exact ioStored_apu _ _ _ _ (write24_keeps q v _ hq)
  case nr34 => exact ioStored_apu _ _ _ _ (write34_keeps q v _ hq)
  case nr44 => exact ioStored_apu _ _ _ _ (write44_keeps q v _ hq)
  case nr52 => exact ioStored_apu _ _ _ _ (write52_keeps q v _ hq)
  all_goals first
    | exact ioStored_ioWrite_a q _ a b v s (by decide) hq
    | exact ioStored_ioWrite_b q _ a b v s (by decide) hq
    | exact ioStored_ioWrite_c q _ a b v s (by decide) hq

theorem regionOf_range (b : Nat) : 
   (regionOf b = .io ↔ 0xFF00 ≤ b ∧ b < 0xFF80) ∧ (regionOf b = .oam ↔ 0xFE00 ≤ b ∧ b < 0xFEA0) := by
  unfold regionOf
  repeat' split
  all_goals simp
  all_goals omega

theorem sameCell_false {a b : Nat} (h : sameCell a b = false) :
   (if regionOf b = .echo then b - 0x2000 else b) ≠ (if regionOf a = .echo then a - 0x2000 else a) := by
  unfold sameCell at h
  simp only [beq_eq_false_iff_ne] at h
  exact fun hh => h hh.symm

theorem ioRegAt_one (r : IoReg) (h : r ≠ .plain) (h2 : r ≠ .waveRam) (x y : Nat) (hx : x < 0x80) (hy : y < 0x80)
    (h3 : ioRegAt x = r) (h4 : ioRegAt y = r) : x = y := by
  by_contra hn
  have key : ∀ x < 0x80, ∀ y < 0x80, x ≠ y → ioRegAt x = ioRegAt y → ioRegAt x = .plain ∨ ioRegAt x = .waveRam := by
    decide +kernel
  rcases key x hx y hy hn (h3.trans h4.symm) with h' | h'
  · exact h (h3.symm.trans h')
  · exact h2 (h3.symm.trans h')

theorem load_sameMbc (s : State) (b : Nat) (m : Mbc) (h : m = s.mbc ∨ (regionOf b ≠ .romBanked ∧ regionOf b ≠ .xram)) :
    load b { s with mbc := m } = load b s := by
  rcases h with rfl | ⟨h1, h2⟩
  · rfl
  unfold load
  cases hb : regionOf b
  case romBanked => exact absurd hb h1
  case xram => exact absurd hb h2
  case io => dsimp only; generalize ioRegOf b = r; cases r <;> rfl
  all_goals rfl

theorem load_otherXram (s : State) (b : Nat) (m : Memory) (h : regionOf b = .xram → xramRead s.mbc m b =
    xramRead s.mbc s.xram b) :
    load b { s with xram := m } = load b s := by
  unfold load
  cases hb : regionOf b
  case xram => exact h hb
  case io => dsimp only; generalize ioRegOf b = r; cases r <;> rfl
  all_goals rfl

theorem load_otherMem (s : State) (b : Nat) (m : Memory)
    (h : ∀ k, (k = if regionOf b = .echo then b - 0x2000 else b) → Memory.read m k = Memory.read s.mem k) :
    load b { s with mem := m } = load b s := by
  unfold load
  cases hb : regionOf b
  case echo => exact h _ (by rw [hb, if_pos rfl])
  case io => exact ioStored_mem _ _ _ _ (h _ (by rw [hb, if_neg (by decide)]))
  case vram => exact h _ (by rw [hb, if_neg (by decide)])
  case wram => exact h _ (by rw [hb, if_neg (by decide)])
  case oam => exact h _ (by rw [hb, if_neg (by decide)])
  case hram => exact h _ (by rw [hb, if_neg (by decide)])
  all_goals rfl

theorem load_otherEnable (s : State) (b : Nat) (v : Byte) (h : regionOf b ≠ .ie) :
    load b { s with irq := { s.irq with enable := v } } = load b s := by
  unfold load
  cases hb : regionOf b
  case ie => exact absurd hb h
  case io => dsimp only; generalize ioRegOf b = r; cases r <;> rfl
  all_goals rfl

theorem load_storeMem (k : Nat) (v : Byte) (s : State) (b : Nat)
    (h : (if regionOf b = .echo then b - 0x2000 else b) ≠ k) : load b (storeMem k v s) = load b s :=
  load_otherMem s b _ (fun _ hk => Memory.read_write_other _ _ _ _ (hk ▸ h))

theorem ioReg_inj (a b : Nat) (ha : 0xFF00 ≤ a ∧ a < 0xFF80) (hb : 0xFF00 ≤ b ∧ b < 0xFF80) (h : ioRegOf a =
    ioRegOf b) (hab : a ≠ b) :
   ioRegOf a = .plain ∨ ioRegOf a = .waveRam := by
  revert h
  unfold ioRegOf
  obtain ⟨x, rfl⟩ := Nat.exists_eq_add_of_le ha.1
  obtain ⟨y, rfl⟩ := Nat.exists_eq_add_of_le hb.1
  rw [Nat.add_sub_cancel_left, Nat.add_sub_cancel_left]
  have hx : x < 0x80 := by omega
  have hy : y < 0x80 := by omega
  have hxy : x ≠ y := by omega
  have key : ∀ x < 0x80, ∀ y < 0x80, x ≠ y → ioRegAt x = ioRegAt y → ioRegAt x = .plain ∨ ioRegAt x = .waveRam := by
    decide +kernel
  exact key x hx y hy hxy

theorem ioWrite_rest (r : IoReg) (a : Nat) (v : Byte) (s : State) :
    (ioWrite r a v s).cart = s.cart ∧ (ioWrite r a v s).mbc = s.mbc ∧ (ioWrite r a v s).xram = s.xram ∧
    (ioWrite r a v s).irq.enable = s.irq.enable := by
  cases r
  case sc => unfold ioWrite writeSc; dsimp only; split <;> exact ⟨rfl, rfl, rfl, rfl⟩
  case waveRam => unfold ioWrite; dsimp only; split <;> exact ⟨rfl, rfl, rfl, rfl⟩
  all_goals exact ⟨rfl, rfl, rfl, rfl⟩

theorem startDma_mem (v : Byte) (s : State) (k : Nat) (hd : k < 0xFE00 ∨ 0xFEA0 ≤ k) :
    Memory.read (startDma v s).mem k = Memory.read s.mem k := by
  unfold startDma
  dsimp only
  rw [dmaCopy_other _ _ _ hd]

theorem ioWrite_mem (r : IoReg) (a : Nat) (v : Byte) (s : State) (k : Nat) (hk : k ≠ a)
    (hd : r = .dma → k < 0xFE00 ∨ 0xFEA0 ≤ k) :
    Memory.read (ioWrite r a v s).mem k = Memory.read s.mem k := by
  have hm : Memory.read (storeMem a v s).mem k = Memory.read s.mem k := Memory.read_write_other _ _ _ _ hk
  cases r
  case sc => unfold ioWrite writeSc; dsimp only; split <;> rfl
  case waveRam => unfold ioWrite; dsimp only; split; rfl; exact hm
  case plain => exact hm
  case boot => exact hm
  case dma => exact startDma_mem v s k (hd rfl)
  all_goals rfl

theorem regionOf_echo (b : Nat) (h : regionOf b = .echo) : 0xE000 ≤ b ∧ b < 0xFE00 := by
  revert h; unfold regionOf; repeat' split
  all_goals first | omega | (intro h; cases h)

theorem load_io (r : IoReg) (a : Nat) (v : Byte) (s : State) (b : Nat) (ha : 0xFF00 ≤ a ∧ a < 0xFF80) (hne : b ≠ a)
    (hb : b ≤ 0xFFFF)
   (hl : r = .lcdc → b ≠ 0xFF41 ∧ b ≠ 0xFF44) (hd : r = .dma → regionOf b ≠ .oam) (hr : ioRegOf a = r) :
   load b (ioWrite r a v s) = load b s := by
  by_cases hio : regionOf b = .io
  · have hbr := (regionOf_range b).1.mp hio
    have e : ∀ t, load b t = ioStored (ioRegOf b) b t := fun t => by unfold load; rw [hio]
    rw [e, e]
    refine ioStored_ioWrite _ _ _ _ _ _ ?_ ?_ hne (by omega)
    · by_cases hq : ioRegOf b = r
      · right
        rcases ioReg_inj b a hbr ha (hq.trans hr.symm) hne with h | h <;> simp [h]
      · exact .inl hq
    · intro h
      have := hl h
      constructor
      · intro h'; exact this.1 (by
          obtain ⟨y, rfl⟩ := Nat.exists_eq_add_of_le hbr.1
          rw [ioRegOf, Nat.add_sub_cancel_left] at h'
          rw [ioRegAt_one .stat (by decide) (by decide) y 0x41 (by omega) (by omega) h' rfl])
      · intro h'; exact this.2 (by
          obtain ⟨y, rfl⟩ := Nat.exists_eq_add_of_le hbr.1
          rw [ioRegOf, Nat.add_sub_cancel_left] at h'
          rw [ioRegAt_one .ly (by decide) (by decide) y 0x44 (by omega) (by omega) h' rfl])
  · obtain ⟨h1, h2, h3, h4⟩ := ioWrite_rest r a v s
    have hm := fun k hk hd => ioWrite_mem r a v s k hk hd
    have hcell : ∀ k, (k = b ∨ (regionOf b = .echo ∧ k = b - 0x2000)) →
        Memory.read (ioWrite r a v s).mem k = Memory.read s.mem k := by
      intro k hk
      have hoam : r = .dma → k < 0xFE00 ∨ 0xFEA0 ≤ k := by
        intro h
        have := hd h
        rcases hk with rfl | ⟨he, hk⟩
        · have h5 := (regionOf_range k).2
          by_contra hc
          exact this (h5.mpr (by omega))
        · left
          have := regionOf_echo b he
          omega
      refine hm k ?_ hoam
      rcases hk with rfl | ⟨he, hk⟩
      · exact hne
      · have := regionOf_echo b he
        omega
    generalize ioWrite r a v s = t at h1 h2 h3 h4 hcell
    unfold load
    cases hb' : regionOf b
    case io => exact absurd hb' hio
    case romFixed => dsimp only; rw [h1]
    case romBanked => dsimp only; rw [h1, h2]
    case xram => dsimp only; rw [h2, h3]
    case ie => exact h4
    case echo => exact hcell _ (.inr ⟨hb', rfl⟩)
    case hole => rfl
    all_goals exact hcell _ (.inl rfl)

theorem regionOf_ie (a : Nat) (h : regionOf a = .ie) : 0xFFFF ≤ a := by
  revert h; unfold regionOf; repeat' split
  all_goals first | omega | (intro h; cases h)

theorem ioReaches_false (r : IoReg) (a b : Nat) (h : ioReaches r a b = false) : b ≠ a ∧ (r =
    .lcdc → b ≠ 0xFF41 ∧ b ≠ 0xFF44) ∧ (r = .dma → regionOf b ≠ .oam) := by
  unfold ioReaches at h
  split at h
  · rw [Bool.or_eq_false_iff, Bool.or_eq_false_iff, beq_eq_false_iff_ne, beq_eq_false_iff_ne, beq_eq_false_iff_ne] at h
    exact ⟨h.1.1, fun _ => ⟨h.1.2, h.2⟩, fun h' => by cases h'⟩
  · rw [Bool.or_eq_false_iff, beq_eq_false_iff_ne, beq_eq_false_iff_ne] at h
    exact ⟨h.1, fun h' => by (cases h'), fun _ => h.2⟩
  · rename_i h1 h2
    rw [beq_eq_false_iff_ne] at h
    exact ⟨h, fun h' => absurd h' h1, fun h' => absurd h' h2⟩

theorem load_routeWrite (a : Word) (v : Byte) (s : State) (b : Nat) (hb : b ≤ 0xFFFF) (hw :
    writeReaches s.mbc a.toNat b = false) :
    load b (routeWrite a v s) = load b s := by
  have hcell : ∀ k, sameCell a.toNat b = false → k = (if regionOf a.toNat = .echo then a.toNat - 0x2000 else a.toNat) →
      load b (storeMem k v s) = load b s := by
    intro k h hk
    exact load_storeMem _ _ _ _ (hk ▸ sameCell_false h)
  have hmbc : (regionOf b == .romBanked || regionOf b == .xram) = false → ∀ m, load b { s with mbc := m } = load b s := by
    intro h m
    simp only [Bool.or_eq_false_iff, beq_eq_false_iff_ne] at h
    exact load_sameMbc s b m (.inr h)
  unfold routeWrite
  unfold writeReaches at hw
  cases hr : regionOf a.toNat <;> rw [hr] at hw hcell
  case romFixed => exact hmbc hw _
  case romBanked => exact hmbc hw _
  case vram => exact hcell _ hw (by rw [if_neg (by decide)])
  case wram => exact hcell _ hw (by rw [if_neg (by decide)])
  case oam => exact hcell _ hw (by rw [if_neg (by decide)])
  case hram => exact hcell _ hw (by rw [if_neg (by decide)])
  case echo => exact hcell _ hw (by rw [if_pos rfl])
  case ie =>
    refine load_otherEnable s b v ?_
    intro hb'
    have h1 := regionOf_ie _ hr
    have h2 := regionOf_ie _ hb'
    have h3 := a.isLt
    apply sameCell_false hw
    rw [hr, hb', if_neg (by decide), if_neg (by decide)]
    omega
  case xram =>
    refine load_otherXram s b _ ?_
    intro hb'
    simp only [hb', beq_self_eq_true, Bool.true_and, Bool.and_eq_false_iff] at hw
    unfold xramWrite xramRead
    cases ha : xramCell s.mbc a.toNat with
    | none => rfl
    | some k =>
      rw [ha] at hw
      simp only [Option.isSome_some, Bool.true_eq_false, false_or, beq_eq_false_iff_ne] at hw
      cases hbk : xramCell s.mbc b with
      | none => rfl
      | some j =>
        have hjk : j ≠ k := by intro h; subst h; exact hw (hbk.symm)
        dsimp only
        rw [Memory.read_write_other _ _ _ _ hjk]
  case io =>
    have hra := (regionOf_range a.toNat).1.mp hr
    obtain ⟨h1, h2, h3⟩ := ioReaches_false _ _ _ hw
    exact load_io (ioRegOf a.toNat) a.toNat v s b hra h1 hb h2 h3 rfl

/-- A CPU write changes no byte outside those it reaches. -/
theorem load_cpuWrite (a : Word) (v : Byte) (s : State) (b : Nat) (hb : b ≤ 0xFFFF)
    (hw : writeReaches s.mbc a.toNat b = false) : load b (cpuWrite a v s) = load b s := by
  unfold cpuWrite
  split
  · rfl
  · split
    · rfl
    · exact load_routeWrite a v s b hb hw

/-- A charged CPU write changes no byte outside those it reaches and those that time changes. -/
theorem load_memWrite (a : Word) (v : Byte) (s : State) (b : Nat) (hb : b ≤ 0xFFFF) (ht : timeByte b = false)
    (hw : writeReaches s.mbc a.toNat b = false) : load b (memWrite a v s) = load b s := by
  have e : busTick s = { timerAdvance 4 s with charged := s.charged + 4 } := rfl
  have h : SameImages s (busTick s) := by
    have k := sameImages_timerAdvance 4 s
    rw [e]
    exact ⟨k.mem, k.xram, k.cart, k.mbc, k.p1, k.sb, k.sc, k.ppu, k.apu, k.dma, k.enable, k.tma, k.tac⟩
  rw [memWrite, load_cpuWrite a v (busTick s) b hb hw, h.load b ht]

end Sys2Proof.Machine
end

