-- ==== Sys2Proof/Laws/PerInstr.lean ====
section
/-! SUPPORT. The family `RoundTrip`, per instruction: decoding the words of an instruction gives the instruction back,
with every operand at every value the encoding admits, and nothing is left over. -/

namespace Sys2Proof.Laws.RoundTrip

/-- The words of i decode to i and to nothing more. -/
def Statement (i : Instr) : Prop := decode (encode i) = .ok (i, [])

/-- An instruction whose bytes decode to it but for the immediate taken apart and put together again. -/
theorem word_back (nn : Word) (f : Word → Instr) (h : decode (encode (f nn)) = .ok (f (Machine.cat (Machine.hiByte nn) (Machine.loByte nn)), [])) :
    Statement (f nn) := h.trans (by rw [Machine.cat_halves])

theorem nop : Statement .nop := rfl
theorem ld_bc_nn (nn : Word) : Statement (.ld_bc_nn nn) := word_back nn Instr.ld_bc_nn rfl
theorem ld_mBc_a : Statement .ld_mBc_a := rfl
theorem inc_bc : Statement .inc_bc := rfl
theorem inc_b : Statement .inc_b := rfl
theorem dec_b : Statement .dec_b := rfl
theorem ld_b_n (n : Byte) : Statement (.ld_b_n n) := rfl
theorem rlca : Statement .rlca := rfl
theorem ld_mNn_sp (nn : Word) : Statement (.ld_mNn_sp nn) := word_back nn Instr.ld_mNn_sp rfl
theorem add_hl_bc : Statement .add_hl_bc := rfl
theorem ld_a_mBc : Statement .ld_a_mBc := rfl
theorem dec_bc : Statement .dec_bc := rfl
theorem inc_c : Statement .inc_c := rfl
theorem dec_c : Statement .dec_c := rfl
theorem ld_c_n (n : Byte) : Statement (.ld_c_n n) := rfl
theorem rrca : Statement .rrca := rfl
theorem stop (n : Byte) : Statement (.stop n) := rfl
theorem ld_de_nn (nn : Word) : Statement (.ld_de_nn nn) := word_back nn Instr.ld_de_nn rfl
theorem ld_mDe_a : Statement .ld_mDe_a := rfl
theorem inc_de : Statement .inc_de := rfl
theorem inc_d : Statement .inc_d := rfl
theorem dec_d : Statement .dec_d := rfl
theorem ld_d_n (n : Byte) : Statement (.ld_d_n n) := rfl
theorem rla : Statement .rla := rfl
theorem jr_e (e : Byte) : Statement (.jr_e e) := rfl
theorem add_hl_de : Statement .add_hl_de := rfl
theorem ld_a_mDe : Statement .ld_a_mDe := rfl
theorem dec_de : Statement .dec_de := rfl
theorem inc_e : Statement .inc_e := rfl
theorem dec_e : Statement .dec_e := rfl
theorem ld_e_n (n : Byte) : Statement (.ld_e_n n) := rfl
theorem rra : Statement .rra := rfl
theorem jr_nz_e (e : Byte) : Statement (.jr_nz_e e) := rfl
theorem ld_hl_nn (nn : Word) : Statement (.ld_hl_nn nn) := word_back nn Instr.ld_hl_nn rfl
theorem ld_mHli_a : Statement .ld_mHli_a := rfl
theorem inc_hl : Statement .inc_hl := rfl
theorem inc_h : Statement .inc_h := rfl
theorem dec_h : Statement .dec_h := rfl
theorem ld_h_n (n : Byte) : Statement (.ld_h_n n) := rfl
theorem daa : Statement .daa := rfl
theorem jr_z_e (e : Byte) : Statement (.jr_z_e e) := rfl
theorem add_hl_hl : Statement .add_hl_hl := rfl
theorem ld_a_mHli : Statement .ld_a_mHli := rfl
theorem dec_hl : Statement .dec_hl := rfl
theorem inc_l : Statement .inc_l := rfl
theorem dec_l : Statement .dec_l := rfl
theorem ld_l_n (n : Byte) : Statement (.ld_l_n n) := rfl
theorem cpl : Statement .cpl := rfl
theorem jr_nc_e (e : Byte) : Statement (.jr_nc_e e) := rfl
theorem ld_sp_nn (nn : Word) : Statement (.ld_sp_nn nn) := word_back nn Instr.ld_sp_nn rfl
theorem ld_mHld_a : Statement .ld_mHld_a := rfl
theorem inc_sp : Statement .inc_sp := rfl
theorem inc_mHl : Statement .inc_mHl := rfl
theorem dec_mHl : Statement .dec_mHl := rfl
theorem ld_mHl_n (n : Byte) : Statement (.ld_mHl_n n) := rfl
theorem scf : Statement .scf := rfl
theorem jr_c_e (e : Byte) : Statement (.jr_c_e e) := rfl
theorem add_hl_sp : Statement .add_hl_sp := rfl
theorem ld_a_mHld : Statement .ld_a_mHld := rfl
theorem dec_sp : Statement .dec_sp := rfl
theorem inc_a : Statement .inc_a := rfl
theorem dec_a : Statement .dec_a := rfl
theorem ld_a_n (n : Byte) : Statement (.ld_a_n n) := rfl
theorem ccf : Statement .ccf := rfl
theorem ld_b_b : Statement .ld_b_b := rfl
theorem ld_b_c : Statement .ld_b_c := rfl
theorem ld_b_d : Statement .ld_b_d := rfl
theorem ld_b_e : Statement .ld_b_e := rfl
theorem ld_b_h : Statement .ld_b_h := rfl
theorem ld_b_l : Statement .ld_b_l := rfl
theorem ld_b_mHl : Statement .ld_b_mHl := rfl
theorem ld_b_a : Statement .ld_b_a := rfl
theorem ld_c_b : Statement .ld_c_b := rfl
theorem ld_c_c : Statement .ld_c_c := rfl
theorem ld_c_d : Statement .ld_c_d := rfl
theorem ld_c_e : Statement .ld_c_e := rfl
theorem ld_c_h : Statement .ld_c_h := rfl
theorem ld_c_l : Statement .ld_c_l := rfl
theorem ld_c_mHl : Statement .ld_c_mHl := rfl
theorem ld_c_a : Statement .ld_c_a := rfl
theorem ld_d_b : Statement .ld_d_b := rfl
theorem ld_d_c : Statement .ld_d_c := rfl
theorem ld_d_d : Statement .ld_d_d := rfl
theorem ld_d_e : Statement .ld_d_e := rfl
theorem ld_d_h : Statement .ld_d_h := rfl
theorem ld_d_l : Statement .ld_d_l := rfl
theorem ld_d_mHl : Statement .ld_d_mHl := rfl
theorem ld_d_a : Statement .ld_d_a := rfl
theorem ld_e_b : Statement .ld_e_b := rfl
theorem ld_e_c : Statement .ld_e_c := rfl
theorem ld_e_d : Statement .ld_e_d := rfl
theorem ld_e_e : Statement .ld_e_e := rfl
theorem ld_e_h : Statement .ld_e_h := rfl
theorem ld_e_l : Statement .ld_e_l := rfl
theorem ld_e_mHl : Statement .ld_e_mHl := rfl
theorem ld_e_a : Statement .ld_e_a := rfl
theorem ld_h_b : Statement .ld_h_b := rfl
theorem ld_h_c : Statement .ld_h_c := rfl
theorem ld_h_d : Statement .ld_h_d := rfl
theorem ld_h_e : Statement .ld_h_e := rfl
theorem ld_h_h : Statement .ld_h_h := rfl
theorem ld_h_l : Statement .ld_h_l := rfl
theorem ld_h_mHl : Statement .ld_h_mHl := rfl
theorem ld_h_a : Statement .ld_h_a := rfl
theorem ld_l_b : Statement .ld_l_b := rfl
theorem ld_l_c : Statement .ld_l_c := rfl
theorem ld_l_d : Statement .ld_l_d := rfl
theorem ld_l_e : Statement .ld_l_e := rfl
theorem ld_l_h : Statement .ld_l_h := rfl
theorem ld_l_l : Statement .ld_l_l := rfl
theorem ld_l_mHl : Statement .ld_l_mHl := rfl
theorem ld_l_a : Statement .ld_l_a := rfl
theorem ld_mHl_b : Statement .ld_mHl_b := rfl
theorem ld_mHl_c : Statement .ld_mHl_c := rfl
theorem ld_mHl_d : Statement .ld_mHl_d := rfl
theorem ld_mHl_e : Statement .ld_mHl_e := rfl
theorem ld_mHl_h : Statement .ld_mHl_h := rfl
theorem ld_mHl_l : Statement .ld_mHl_l := rfl
theorem halt : Statement .halt := rfl
theorem ld_mHl_a : Statement .ld_mHl_a := rfl
theorem ld_a_b : Statement .ld_a_b := rfl
theorem ld_a_c : Statement .ld_a_c := rfl
theorem ld_a_d : Statement .ld_a_d := rfl
theorem ld_a_e : Statement .ld_a_e := rfl
theorem ld_a_h : Statement .ld_a_h := rfl
theorem ld_a_l : Statement .ld_a_l := rfl
theorem ld_a_mHl : Statement .ld_a_mHl := rfl
theorem ld_a_a : Statement .ld_a_a := rfl
theorem add_a_b : Statement .add_a_b := rfl
theorem add_a_c : Statement .add_a_c := rfl
theorem add_a_d : Statement .add_a_d := rfl
theorem add_a_e : Statement .add_a_e := rfl
theorem add_a_h : Statement .add_a_h := rfl
theorem add_a_l : Statement .add_a_l := rfl
theorem add_a_mHl : Statement .add_a_mHl := rfl
theorem add_a_a : Statement .add_a_a := rfl
theorem adc_a_b : Statement .adc_a_b := rfl
theorem adc_a_c : Statement .adc_a_c := rfl
theorem adc_a_d : Statement .adc_a_d := rfl
theorem adc_a_e : Statement .adc_a_e := rfl
theorem adc_a_h : Statement .adc_a_h := rfl
theorem adc_a_l : Statement .adc_a_l := rfl
theorem adc_a_mHl : Statement .adc_a_mHl := rfl
theorem adc_a_a : Statement .adc_a_a := rfl
theorem sub_b : Statement .sub_b := rfl
theorem sub_c : Statement .sub_c := rfl
theorem sub_d : Statement .sub_d := rfl
theorem sub_e : Statement .sub_e := rfl
theorem sub_h : Statement .sub_h := rfl
theorem sub_l : Statement .sub_l := rfl
theorem sub_mHl : Statement .sub_mHl := rfl
theorem sub_a : Statement .sub_a := rfl
theorem sbc_a_b : Statement .sbc_a_b := rfl
theorem sbc_a_c : Statement .sbc_a_c := rfl
theorem sbc_a_d : Statement .sbc_a_d := rfl
theorem sbc_a_e : Statement .sbc_a_e := rfl
theorem sbc_a_h : Statement .sbc_a_h := rfl
theorem sbc_a_l : Statement .sbc_a_l := rfl
theorem sbc_a_mHl : Statement .sbc_a_mHl := rfl
theorem sbc_a_a : Statement .sbc_a_a := rfl
theorem and_b : Statement .and_b := rfl
theorem and_c : Statement .and_c := rfl
theorem and_d : Statement .and_d := rfl
theorem and_e : Statement .and_e := rfl
theorem and_h : Statement .and_h := rfl
theorem and_l : Statement .and_l := rfl
theorem and_mHl : Statement .and_mHl := rfl
theorem and_a : Statement .and_a := rfl
theorem xor_b : Statement .xor_b := rfl
theorem xor_c : Statement .xor_c := rfl
theorem xor_d : Statement .xor_d := rfl
theorem xor_e : Statement .xor_e := rfl
theorem xor_h : Statement .xor_h := rfl
theorem xor_l : Statement .xor_l := rfl
theorem xor_mHl : Statement .xor_mHl := rfl
theorem xor_a : Statement .xor_a := rfl
theorem or_b : Statement .or_b := rfl
theorem or_c : Statement .or_c := rfl
theorem or_d : Statement .or_d := rfl
theorem or_e : Statement .or_e := rfl
theorem or_h : Statement .or_h := rfl
theorem or_l : Statement .or_l := rfl
theorem or_mHl : Statement .or_mHl := rfl
theorem or_a : Statement .or_a := rfl
theorem cp_b : Statement .cp_b := rfl
theorem cp_c : Statement .cp_c := rfl
theorem cp_d : Statement .cp_d := rfl
theorem cp_e : Statement .cp_e := rfl
theorem cp_h : Statement .cp_h := rfl
theorem cp_l : Statement .cp_l := rfl
theorem cp_mHl : Statement .cp_mHl := rfl
theorem cp_a : Statement .cp_a := rfl
theorem ret_nz : Statement .ret_nz := rfl
theorem pop_bc : Statement .pop_bc := rfl
theorem jp_nz_nn (nn : Word) : Statement (.jp_nz_nn nn) := word_back nn Instr.jp_nz_nn rfl
theorem jp_nn (nn : Word) : Statement (.jp_nn nn) := word_back nn Instr.jp_nn rfl
theorem call_nz_nn (nn : Word) : Statement (.call_nz_nn nn) := word_back nn Instr.call_nz_nn rfl
theorem push_bc : Statement .push_bc := rfl
theorem add_a_n (n : Byte) : Statement (.add_a_n n) := rfl
theorem rst_00 : Statement .rst_00 := rfl
theorem ret_z : Statement .ret_z := rfl
theorem ret : Statement .ret := rfl
theorem jp_z_nn (nn : Word) : Statement (.jp_z_nn nn) := word_back nn Instr.jp_z_nn rfl
theorem call_z_nn (nn : Word) : Statement (.call_z_nn nn) := word_back nn Instr.call_z_nn rfl
theorem call_nn (nn : Word) : Statement (.call_nn nn) := word_back nn Instr.call_nn rfl
theorem adc_a_n (n : Byte) : Statement (.adc_a_n n) := rfl
theorem rst_08 : Statement .rst_08 := rfl
theorem ret_nc : Statement .ret_nc := rfl
theorem pop_de : Statement .pop_de := rfl
theorem jp_nc_nn (nn : Word) : Statement (.jp_nc_nn nn) := word_back nn Instr.jp_nc_nn rfl
theorem unassigned_d3 : Statement .unassigned_d3 := rfl
theorem call_nc_nn (nn : Word) : Statement (.call_nc_nn nn) := word_back nn Instr.call_nc_nn rfl
theorem push_de : Statement .push_de := rfl
theorem sub_n (n : Byte) : Statement (.sub_n n) := rfl
theorem rst_10 : Statement .rst_10 := rfl
theorem ret_c : Statement .ret_c := rfl
theorem reti : Statement .reti := rfl
theorem jp_c_nn (nn : Word) : Statement (.jp_c_nn nn) := word_back nn Instr.jp_c_nn rfl
theorem unassigned_db : Statement .unassigned_db := rfl
theorem call_c_nn (nn : Word) : Statement (.call_c_nn nn) := word_back nn Instr.call_c_nn rfl
theorem unassigned_dd : Statement .unassigned_dd := rfl
theorem sbc_a_n (n : Byte) : Statement (.sbc_a_n n) := rfl
theorem rst_18 : Statement .rst_18 := rfl
theorem ldh_mN_a (n : Byte) : Statement (.ldh_mN_a n) := rfl
theorem pop_hl : Statement .pop_hl := rfl
theorem ldh_mC_a : Statement .ldh_mC_a := rfl
theorem unassigned_e3 : Statement .unassigned_e3 := rfl
theorem unassigned_e4 : Statement .unassigned_e4 := rfl
theorem push_hl : Statement .push_hl := rfl
theorem and_n (n : Byte) : Statement (.and_n n) := rfl
theorem rst_20 : Statement .rst_20 := rfl
theorem add_sp_e (e : Byte) : Statement (.add_sp_e e) := rfl
theorem jp_hl : Statement .jp_hl := rfl
theorem ld_mNn_a (nn : Word) : Statement (.ld_mNn_a nn) := word_back nn Instr.ld_mNn_a rfl
theorem unassigned_eb : Statement .unassigned_eb := rfl
theorem unassigned_ec : Statement .unassigned_ec := rfl
theorem unassigned_ed : Statement .unassigned_ed := rfl
theorem xor_n (n : Byte) : Statement (.xor_n n) := rfl
theorem rst_28 : Statement .rst_28 := rfl
theorem ldh_a_mN (n : Byte) : Statement (.ldh_a_mN n) := rfl
theorem pop_af : Statement .pop_af := rfl
theorem ldh_a_mC : Statement .ldh_a_mC := rfl
theorem di : Statement .di := rfl
theorem unassigned_f4 : Statement .unassigned_f4 := rfl
theorem push_af : Statement .push_af := rfl
theorem or_n (n : Byte) : Statement (.or_n n) := rfl
theorem rst_30 : Statement .rst_30 := rfl
theorem ld_hl_spE (e : Byte) : Statement (.ld_hl_spE e) := rfl
theorem ld_sp_hl : Statement .ld_sp_hl := rfl
theorem ld_a_mNn (nn : Word) : Statement (.ld_a_mNn nn) := word_back nn Instr.ld_a_mNn rfl
theorem ei : Statement .ei := rfl
theorem unassigned_fc : Statement .unassigned_fc := rfl
theorem unassigned_fd : Statement .unassigned_fd := rfl
theorem cp_n (n : Byte) : Statement (.cp_n n) := rfl
theorem rst_38 : Statement .rst_38 := rfl
theorem rlc_b : Statement .rlc_b := rfl
theorem rlc_c : Statement .rlc_c := rfl
theorem rlc_d : Statement .rlc_d := rfl
theorem rlc_e : Statement .rlc_e := rfl
theorem rlc_h : Statement .rlc_h := rfl
theorem rlc_l : Statement .rlc_l := rfl
theorem rlc_mHl : Statement .rlc_mHl := rfl
theorem rlc_a : Statement .rlc_a := rfl
theorem rrc_b : Statement .rrc_b := rfl
theorem rrc_c : Statement .rrc_c := rfl
theorem rrc_d : Statement .rrc_d := rfl
theorem rrc_e : Statement .rrc_e := rfl
theorem rrc_h : Statement .rrc_h := rfl
theorem rrc_l : Statement .rrc_l := rfl
theorem rrc_mHl : Statement .rrc_mHl := rfl
theorem rrc_a : Statement .rrc_a := rfl
theorem rl_b : Statement .rl_b := rfl
theorem rl_c : Statement .rl_c := rfl
theorem rl_d : Statement .rl_d := rfl
theorem rl_e : Statement .rl_e := rfl
theorem rl_h : Statement .rl_h := rfl
theorem rl_l : Statement .rl_l := rfl
theorem rl_mHl : Statement .rl_mHl := rfl
theorem rl_a : Statement .rl_a := rfl
theorem rr_b : Statement .rr_b := rfl
theorem rr_c : Statement .rr_c := rfl
theorem rr_d : Statement .rr_d := rfl
theorem rr_e : Statement .rr_e := rfl
theorem rr_h : Statement .rr_h := rfl
theorem rr_l : Statement .rr_l := rfl
theorem rr_mHl : Statement .rr_mHl := rfl
theorem rr_a : Statement .rr_a := rfl
theorem sla_b : Statement .sla_b := rfl
theorem sla_c : Statement .sla_c := rfl
theorem sla_d : Statement .sla_d := rfl
theorem sla_e : Statement .sla_e := rfl
theorem sla_h : Statement .sla_h := rfl
theorem sla_l : Statement .sla_l := rfl
theorem sla_mHl : Statement .sla_mHl := rfl
theorem sla_a : Statement .sla_a := rfl
theorem sra_b : Statement .sra_b := rfl
theorem sra_c : Statement .sra_c := rfl
theorem sra_d : Statement .sra_d := rfl
theorem sra_e : Statement .sra_e := rfl
theorem sra_h : Statement .sra_h := rfl
theorem sra_l : Statement .sra_l := rfl
theorem sra_mHl : Statement .sra_mHl := rfl
theorem sra_a : Statement .sra_a := rfl
theorem swap_b : Statement .swap_b := rfl
theorem swap_c : Statement .swap_c := rfl
theorem swap_d : Statement .swap_d := rfl
theorem swap_e : Statement .swap_e := rfl
theorem swap_h : Statement .swap_h := rfl
theorem swap_l : Statement .swap_l := rfl
theorem swap_mHl : Statement .swap_mHl := rfl
theorem swap_a : Statement .swap_a := rfl
theorem srl_b : Statement .srl_b := rfl
theorem srl_c : Statement .srl_c := rfl
theorem srl_d : Statement .srl_d := rfl
theorem srl_e : Statement .srl_e := rfl
theorem srl_h : Statement .srl_h := rfl
theorem srl_l : Statement .srl_l := rfl
theorem srl_mHl : Statement .srl_mHl := rfl
theorem srl_a : Statement .srl_a := rfl
theorem bit_0_b : Statement .bit_0_b := rfl
theorem bit_0_c : Statement .bit_0_c := rfl
theorem bit_0_d : Statement .bit_0_d := rfl
theorem bit_0_e : Statement .bit_0_e := rfl
theorem bit_0_h : Statement .bit_0_h := rfl
theorem bit_0_l : Statement .bit_0_l := rfl
theorem bit_0_mHl : Statement .bit_0_mHl := rfl
theorem bit_0_a : Statement .bit_0_a := rfl
theorem bit_1_b : Statement .bit_1_b := rfl
theorem bit_1_c : Statement .bit_1_c := rfl
theorem bit_1_d : Statement .bit_1_d := rfl
theorem bit_1_e : Statement .bit_1_e := rfl
theorem bit_1_h : Statement .bit_1_h := rfl
theorem bit_1_l : Statement .bit_1_l := rfl
theorem bit_1_mHl : Statement .bit_1_mHl := rfl
theorem bit_1_a : Statement .bit_1_a := rfl
theorem bit_2_b : Statement .bit_2_b := rfl
theorem bit_2_c : Statement .bit_2_c := rfl
theorem bit_2_d : Statement .bit_2_d := rfl
theorem bit_2_e : Statement .bit_2_e := rfl
theorem bit_2_h : Statement .bit_2_h := rfl
theorem bit_2_l : Statement .bit_2_l := rfl
theorem bit_2_mHl : Statement .bit_2_mHl := rfl
theorem bit_2_a : Statement .bit_2_a := rfl
theorem bit_3_b : Statement .bit_3_b := rfl
theorem bit_3_c : Statement .bit_3_c := rfl
theorem bit_3_d : Statement .bit_3_d := rfl
theorem bit_3_e : Statement .bit_3_e := rfl
theorem bit_3_h : Statement .bit_3_h := rfl
theorem bit_3_l : Statement .bit_3_l := rfl
theorem bit_3_mHl : Statement .bit_3_mHl := rfl
theorem bit_3_a : Statement .bit_3_a := rfl
theorem bit_4_b : Statement .bit_4_b := rfl
theorem bit_4_c : Statement .bit_4_c := rfl
theorem bit_4_d : Statement .bit_4_d := rfl
theorem bit_4_e : Statement .bit_4_e := rfl
theorem bit_4_h : Statement .bit_4_h := rfl
theorem bit_4_l : Statement .bit_4_l := rfl
theorem bit_4_mHl : Statement .bit_4_mHl := rfl
theorem bit_4_a : Statement .bit_4_a := rfl
theorem bit_5_b : Statement .bit_5_b := rfl
theorem bit_5_c : Statement .bit_5_c := rfl
theorem bit_5_d : Statement .bit_5_d := rfl
theorem bit_5_e : Statement .bit_5_e := rfl
theorem bit_5_h : Statement .bit_5_h := rfl
theorem bit_5_l : Statement .bit_5_l := rfl
theorem bit_5_mHl : Statement .bit_5_mHl := rfl
theorem bit_5_a : Statement .bit_5_a := rfl
theorem bit_6_b : Statement .bit_6_b := rfl
theorem bit_6_c : Statement .bit_6_c := rfl
theorem bit_6_d : Statement .bit_6_d := rfl
theorem bit_6_e : Statement .bit_6_e := rfl
theorem bit_6_h : Statement .bit_6_h := rfl
theorem bit_6_l : Statement .bit_6_l := rfl
theorem bit_6_mHl : Statement .bit_6_mHl := rfl
theorem bit_6_a : Statement .bit_6_a := rfl
theorem bit_7_b : Statement .bit_7_b := rfl
theorem bit_7_c : Statement .bit_7_c := rfl
theorem bit_7_d : Statement .bit_7_d := rfl
theorem bit_7_e : Statement .bit_7_e := rfl
theorem bit_7_h : Statement .bit_7_h := rfl
theorem bit_7_l : Statement .bit_7_l := rfl
theorem bit_7_mHl : Statement .bit_7_mHl := rfl
theorem bit_7_a : Statement .bit_7_a := rfl
theorem res_0_b : Statement .res_0_b := rfl
theorem res_0_c : Statement .res_0_c := rfl
theorem res_0_d : Statement .res_0_d := rfl
theorem res_0_e : Statement .res_0_e := rfl
theorem res_0_h : Statement .res_0_h := rfl
theorem res_0_l : Statement .res_0_l := rfl
theorem res_0_mHl : Statement .res_0_mHl := rfl
theorem res_0_a : Statement .res_0_a := rfl
theorem res_1_b : Statement .res_1_b := rfl
theorem res_1_c : Statement .res_1_c := rfl
theorem res_1_d : Statement .res_1_d := rfl
theorem res_1_e : Statement .res_1_e := rfl
theorem res_1_h : Statement .res_1_h := rfl
theorem res_1_l : Statement .res_1_l := rfl
theorem res_1_mHl : Statement .res_1_mHl := rfl
theorem res_1_a : Statement .res_1_a := rfl
theorem res_2_b : Statement .res_2_b := rfl
theorem res_2_c : Statement .res_2_c := rfl
theorem res_2_d : Statement .res_2_d := rfl
theorem res_2_e : Statement .res_2_e := rfl
theorem res_2_h : Statement .res_2_h := rfl
theorem res_2_l : Statement .res_2_l := rfl
theorem res_2_mHl : Statement .res_2_mHl := rfl
theorem res_2_a : Statement .res_2_a := rfl
theorem res_3_b : Statement .res_3_b := rfl
theorem res_3_c : Statement .res_3_c := rfl
theorem res_3_d : Statement .res_3_d := rfl
theorem res_3_e : Statement .res_3_e := rfl
theorem res_3_h : Statement .res_3_h := rfl
theorem res_3_l : Statement .res_3_l := rfl
theorem res_3_mHl : Statement .res_3_mHl := rfl
theorem res_3_a : Statement .res_3_a := rfl
theorem res_4_b : Statement .res_4_b := rfl
theorem res_4_c : Statement .res_4_c := rfl
theorem res_4_d : Statement .res_4_d := rfl
theorem res_4_e : Statement .res_4_e := rfl
theorem res_4_h : Statement .res_4_h := rfl
theorem res_4_l : Statement .res_4_l := rfl
theorem res_4_mHl : Statement .res_4_mHl := rfl
theorem res_4_a : Statement .res_4_a := rfl
theorem res_5_b : Statement .res_5_b := rfl
theorem res_5_c : Statement .res_5_c := rfl
theorem res_5_d : Statement .res_5_d := rfl
theorem res_5_e : Statement .res_5_e := rfl
theorem res_5_h : Statement .res_5_h := rfl
theorem res_5_l : Statement .res_5_l := rfl
theorem res_5_mHl : Statement .res_5_mHl := rfl
theorem res_5_a : Statement .res_5_a := rfl
theorem res_6_b : Statement .res_6_b := rfl
theorem res_6_c : Statement .res_6_c := rfl
theorem res_6_d : Statement .res_6_d := rfl
theorem res_6_e : Statement .res_6_e := rfl
theorem res_6_h : Statement .res_6_h := rfl
theorem res_6_l : Statement .res_6_l := rfl
theorem res_6_mHl : Statement .res_6_mHl := rfl
theorem res_6_a : Statement .res_6_a := rfl
theorem res_7_b : Statement .res_7_b := rfl
theorem res_7_c : Statement .res_7_c := rfl
theorem res_7_d : Statement .res_7_d := rfl
theorem res_7_e : Statement .res_7_e := rfl
theorem res_7_h : Statement .res_7_h := rfl
theorem res_7_l : Statement .res_7_l := rfl
theorem res_7_mHl : Statement .res_7_mHl := rfl
theorem res_7_a : Statement .res_7_a := rfl
theorem set_0_b : Statement .set_0_b := rfl
theorem set_0_c : Statement .set_0_c := rfl
theorem set_0_d : Statement .set_0_d := rfl
theorem set_0_e : Statement .set_0_e := rfl
theorem set_0_h : Statement .set_0_h := rfl
theorem set_0_l : Statement .set_0_l := rfl
theorem set_0_mHl : Statement .set_0_mHl := rfl
theorem set_0_a : Statement .set_0_a := rfl
theorem set_1_b : Statement .set_1_b := rfl
theorem set_1_c : Statement .set_1_c := rfl
theorem set_1_d : Statement .set_1_d := rfl
theorem set_1_e : Statement .set_1_e := rfl
theorem set_1_h : Statement .set_1_h := rfl
theorem set_1_l : Statement .set_1_l := rfl
theorem set_1_mHl : Statement .set_1_mHl := rfl
theorem set_1_a : Statement .set_1_a := rfl
theorem set_2_b : Statement .set_2_b := rfl
theorem set_2_c : Statement .set_2_c := rfl
theorem set_2_d : Statement .set_2_d := rfl
theorem set_2_e : Statement .set_2_e := rfl
theorem set_2_h : Statement .set_2_h := rfl
theorem set_2_l : Statement .set_2_l := rfl
theorem set_2_mHl : Statement .set_2_mHl := rfl
theorem set_2_a : Statement .set_2_a := rfl
theorem set_3_b : Statement .set_3_b := rfl
theorem set_3_c : Statement .set_3_c := rfl
theorem set_3_d : Statement .set_3_d := rfl
theorem set_3_e : Statement .set_3_e := rfl
theorem set_3_h : Statement .set_3_h := rfl
theorem set_3_l : Statement .set_3_l := rfl
theorem set_3_mHl : Statement .set_3_mHl := rfl
theorem set_3_a : Statement .set_3_a := rfl
theorem set_4_b : Statement .set_4_b := rfl
theorem set_4_c : Statement .set_4_c := rfl
theorem set_4_d : Statement .set_4_d := rfl
theorem set_4_e : Statement .set_4_e := rfl
theorem set_4_h : Statement .set_4_h := rfl
theorem set_4_l : Statement .set_4_l := rfl
theorem set_4_mHl : Statement .set_4_mHl := rfl
theorem set_4_a : Statement .set_4_a := rfl
theorem set_5_b : Statement .set_5_b := rfl
theorem set_5_c : Statement .set_5_c := rfl
theorem set_5_d : Statement .set_5_d := rfl
theorem set_5_e : Statement .set_5_e := rfl
theorem set_5_h : Statement .set_5_h := rfl
theorem set_5_l : Statement .set_5_l := rfl
theorem set_5_mHl : Statement .set_5_mHl := rfl
theorem set_5_a : Statement .set_5_a := rfl
theorem set_6_b : Statement .set_6_b := rfl
theorem set_6_c : Statement .set_6_c := rfl
theorem set_6_d : Statement .set_6_d := rfl
theorem set_6_e : Statement .set_6_e := rfl
theorem set_6_h : Statement .set_6_h := rfl
theorem set_6_l : Statement .set_6_l := rfl
theorem set_6_mHl : Statement .set_6_mHl := rfl
theorem set_6_a : Statement .set_6_a := rfl
theorem set_7_b : Statement .set_7_b := rfl
theorem set_7_c : Statement .set_7_c := rfl
theorem set_7_d : Statement .set_7_d := rfl
theorem set_7_e : Statement .set_7_e := rfl
theorem set_7_h : Statement .set_7_h := rfl
theorem set_7_l : Statement .set_7_l := rfl
theorem set_7_mHl : Statement .set_7_mHl := rfl
theorem set_7_a : Statement .set_7_a := rfl

end Sys2Proof.Laws.RoundTrip
end

