-- ==== Sys2Proof/Tests/Slice0.lean ====
section
/-! SUPPORT. Tests: the checks of WellFormed refuse ill-formed terms; every opcode byte decodes as the pattern table of
spec/30_encoding.md R150 and R151 says; single steps of the unit vectors of spec/95_test_vectors.md (the vector's id
stands in each name) and of examples in the rules; and, for every statement with hypotheses, a state and operands that meet
them. -/

namespace Sys2Proof.Tests

open Sys2Proof Sys2Proof.Machine

set_option Elab.async false

/-! ### WellFormed refuses what is ill formed -/

theorem test_default_params_wellFormed : Params.default.wellFormed = true := by decide
theorem test_af_reset_refused : { Params.default with afReset := 0x01B1#16 }.wellFormed = false := by decide
theorem test_dispatch_cycles_refused : { Params.default with intDispatchCycles := 7 }.wellFormed = false := by decide
theorem test_dma_cycles_refused : { Params.default with dmaCycles := 0 }.wellFormed = false := by decide
theorem test_sample_rate_refused : { Params.default with sampleRate := 0 }.wellFormed = false := by decide
theorem test_small_buffer_refused : { Params.default with audioBufSamples := 1023 }.wellFormed = false := by decide
theorem test_large_buffer_refused : { Params.default with audioBufSamples := 4097 }.wellFormed = false := by decide
theorem test_blank_cart_wellFormed : Cart.blank.wellFormed = true := by decide
theorem test_empty_cart_refused : Cart.wellFormed { len := 0, bytes := [] } = false := by decide
theorem test_long_cart_refused : Cart.wellFormed { len := 0x200001, bytes := [] } = false := by decide
theorem test_cart_order_refused : Cart.wellFormed { len := 0x8000, bytes := [(2, 1#8), (1, 1#8)] } = false := by decide
theorem test_cart_cell_outside_refused : Cart.wellFormed { len := 0x150, bytes := [(0x150, 1#8)] } = false := by decide
theorem test_boot_rom_zero_cell_refused : bootRomWellFormed [(0, 0#8)] = false := by decide
theorem test_boot_rom_outside_refused : bootRomWellFormed [(0x100, 1#8)] = false := by decide

/-! ### Decoding: every word of R150 and R151, written out from the patterns -/

/-- Every word decodes to its instruction, and the instruction encodes to its word. -/
def decodes (ws : List (List Byte × Instr)) : Bool :=
  ws.all fun w => (decode w.1).toOption == some (w.2, []) && encode w.2 == w.1

def words_op_0 : List (List Byte × Instr) :=
  [([0x00#8], .nop), ([0x01#8, 0x34#8, 0x12#8], .ld_bc_nn 0x1234#16), ([0x02#8], .ld_mBc_a), ([0x03#8], .inc_bc),
   ([0x04#8], .inc_b), ([0x05#8], .dec_b), ([0x06#8, 0x5A#8], .ld_b_n 0x5A#8), ([0x07#8], .rlca),
   ([0x08#8, 0x34#8, 0x12#8], .ld_mNn_sp 0x1234#16), ([0x09#8], .add_hl_bc), ([0x0A#8], .ld_a_mBc),
   ([0x0B#8], .dec_bc), ([0x0C#8], .inc_c), ([0x0D#8], .dec_c), ([0x0E#8, 0x5A#8], .ld_c_n 0x5A#8), ([0x0F#8], .rrca),
   ([0x10#8, 0x5A#8], .stop 0x5A#8), ([0x11#8, 0x34#8, 0x12#8], .ld_de_nn 0x1234#16), ([0x12#8], .ld_mDe_a),
   ([0x13#8], .inc_de), ([0x14#8], .inc_d), ([0x15#8], .dec_d), ([0x16#8, 0x5A#8], .ld_d_n 0x5A#8), ([0x17#8], .rla),
   ([0x18#8, 0xFB#8], .jr_e 0xFB#8), ([0x19#8], .add_hl_de), ([0x1A#8], .ld_a_mDe), ([0x1B#8], .dec_de),
   ([0x1C#8], .inc_e), ([0x1D#8], .dec_e), ([0x1E#8, 0x5A#8], .ld_e_n 0x5A#8), ([0x1F#8], .rra),
   ([0x20#8, 0xFB#8], .jr_nz_e 0xFB#8), ([0x21#8, 0x34#8, 0x12#8], .ld_hl_nn 0x1234#16), ([0x22#8], .ld_mHli_a),
   ([0x23#8], .inc_hl), ([0x24#8], .inc_h), ([0x25#8], .dec_h), ([0x26#8, 0x5A#8], .ld_h_n 0x5A#8), ([0x27#8], .daa),
   ([0x28#8, 0xFB#8], .jr_z_e 0xFB#8), ([0x29#8], .add_hl_hl), ([0x2A#8], .ld_a_mHli), ([0x2B#8], .dec_hl),
   ([0x2C#8], .inc_l), ([0x2D#8], .dec_l), ([0x2E#8, 0x5A#8], .ld_l_n 0x5A#8), ([0x2F#8], .cpl),
   ([0x30#8, 0xFB#8], .jr_nc_e 0xFB#8), ([0x31#8, 0x34#8, 0x12#8], .ld_sp_nn 0x1234#16), ([0x32#8], .ld_mHld_a),
   ([0x33#8], .inc_sp), ([0x34#8], .inc_mHl), ([0x35#8], .dec_mHl), ([0x36#8, 0x5A#8], .ld_mHl_n 0x5A#8),
   ([0x37#8], .scf), ([0x38#8, 0xFB#8], .jr_c_e 0xFB#8), ([0x39#8], .add_hl_sp), ([0x3A#8], .ld_a_mHld),
   ([0x3B#8], .dec_sp), ([0x3C#8], .inc_a), ([0x3D#8], .dec_a), ([0x3E#8, 0x5A#8], .ld_a_n 0x5A#8), ([0x3F#8], .ccf)]

theorem test_decode_op_0 : decodes words_op_0 = true := by decide +kernel

def words_op_1 : List (List Byte × Instr) :=
  [([0x40#8], .ld_b_b), ([0x41#8], .ld_b_c), ([0x42#8], .ld_b_d), ([0x43#8], .ld_b_e), ([0x44#8], .ld_b_h),
   ([0x45#8], .ld_b_l), ([0x46#8], .ld_b_mHl), ([0x47#8], .ld_b_a), ([0x48#8], .ld_c_b), ([0x49#8], .ld_c_c),
   ([0x4A#8], .ld_c_d), ([0x4B#8], .ld_c_e), ([0x4C#8], .ld_c_h), ([0x4D#8], .ld_c_l), ([0x4E#8], .ld_c_mHl),
   ([0x4F#8], .ld_c_a), ([0x50#8], .ld_d_b), ([0x51#8], .ld_d_c), ([0x52#8], .ld_d_d), ([0x53#8], .ld_d_e),
   ([0x54#8], .ld_d_h), ([0x55#8], .ld_d_l), ([0x56#8], .ld_d_mHl), ([0x57#8], .ld_d_a), ([0x58#8], .ld_e_b),
   ([0x59#8], .ld_e_c), ([0x5A#8], .ld_e_d), ([0x5B#8], .ld_e_e), ([0x5C#8], .ld_e_h), ([0x5D#8], .ld_e_l),
   ([0x5E#8], .ld_e_mHl), ([0x5F#8], .ld_e_a), ([0x60#8], .ld_h_b), ([0x61#8], .ld_h_c), ([0x62#8], .ld_h_d),
   ([0x63#8], .ld_h_e), ([0x64#8], .ld_h_h), ([0x65#8], .ld_h_l), ([0x66#8], .ld_h_mHl), ([0x67#8], .ld_h_a),
   ([0x68#8], .ld_l_b), ([0x69#8], .ld_l_c), ([0x6A#8], .ld_l_d), ([0x6B#8], .ld_l_e), ([0x6C#8], .ld_l_h),
   ([0x6D#8], .ld_l_l), ([0x6E#8], .ld_l_mHl), ([0x6F#8], .ld_l_a), ([0x70#8], .ld_mHl_b), ([0x71#8], .ld_mHl_c),
   ([0x72#8], .ld_mHl_d), ([0x73#8], .ld_mHl_e), ([0x74#8], .ld_mHl_h), ([0x75#8], .ld_mHl_l), ([0x76#8], .halt),
   ([0x77#8], .ld_mHl_a), ([0x78#8], .ld_a_b), ([0x79#8], .ld_a_c), ([0x7A#8], .ld_a_d), ([0x7B#8], .ld_a_e),
   ([0x7C#8], .ld_a_h), ([0x7D#8], .ld_a_l), ([0x7E#8], .ld_a_mHl), ([0x7F#8], .ld_a_a)]

theorem test_decode_op_1 : decodes words_op_1 = true := by decide +kernel

def words_op_2 : List (List Byte × Instr) :=
  [([0x80#8], .add_a_b), ([0x81#8], .add_a_c), ([0x82#8], .add_a_d), ([0x83#8], .add_a_e), ([0x84#8], .add_a_h),
   ([0x85#8], .add_a_l), ([0x86#8], .add_a_mHl), ([0x87#8], .add_a_a), ([0x88#8], .adc_a_b), ([0x89#8], .adc_a_c),
   ([0x8A#8], .adc_a_d), ([0x8B#8], .adc_a_e), ([0x8C#8], .adc_a_h), ([0x8D#8], .adc_a_l), ([0x8E#8], .adc_a_mHl),
   ([0x8F#8], .adc_a_a), ([0x90#8], .sub_b), ([0x91#8], .sub_c), ([0x92#8], .sub_d), ([0x93#8], .sub_e),
   ([0x94#8], .sub_h), ([0x95#8], .sub_l), ([0x96#8], .sub_mHl), ([0x97#8], .sub_a), ([0x98#8], .sbc_a_b),
   ([0x99#8], .sbc_a_c), ([0x9A#8], .sbc_a_d), ([0x9B#8], .sbc_a_e), ([0x9C#8], .sbc_a_h), ([0x9D#8], .sbc_a_l),
   ([0x9E#8], .sbc_a_mHl), ([0x9F#8], .sbc_a_a), ([0xA0#8], .and_b), ([0xA1#8], .and_c), ([0xA2#8], .and_d),
   ([0xA3#8], .and_e), ([0xA4#8], .and_h), ([0xA5#8], .and_l), ([0xA6#8], .and_mHl), ([0xA7#8], .and_a),
   ([0xA8#8], .xor_b), ([0xA9#8], .xor_c), ([0xAA#8], .xor_d), ([0xAB#8], .xor_e), ([0xAC#8], .xor_h),
   ([0xAD#8], .xor_l), ([0xAE#8], .xor_mHl), ([0xAF#8], .xor_a), ([0xB0#8], .or_b), ([0xB1#8], .or_c),
   ([0xB2#8], .or_d), ([0xB3#8], .or_e), ([0xB4#8], .or_h), ([0xB5#8], .or_l), ([0xB6#8], .or_mHl), ([0xB7#8], .or_a),
   ([0xB8#8], .cp_b), ([0xB9#8], .cp_c), ([0xBA#8], .cp_d), ([0xBB#8], .cp_e), ([0xBC#8], .cp_h), ([0xBD#8], .cp_l),
   ([0xBE#8], .cp_mHl), ([0xBF#8], .cp_a)]

theorem test_decode_op_2 : decodes words_op_2 = true := by decide +kernel

def words_op_3 : List (List Byte × Instr) :=
  [([0xC0#8], .ret_nz), ([0xC1#8], .pop_bc), ([0xC2#8, 0x34#8, 0x12#8], .jp_nz_nn 0x1234#16),
   ([0xC3#8, 0x34#8, 0x12#8], .jp_nn 0x1234#16), ([0xC4#8, 0x34#8, 0x12#8], .call_nz_nn 0x1234#16),
   ([0xC5#8], .push_bc), ([0xC6#8, 0x5A#8], .add_a_n 0x5A#8), ([0xC7#8], .rst_00), ([0xC8#8], .ret_z),
   ([0xC9#8], .ret), ([0xCA#8, 0x34#8, 0x12#8], .jp_z_nn 0x1234#16), ([0xCC#8, 0x34#8, 0x12#8], .call_z_nn 0x1234#16),
   ([0xCD#8, 0x34#8, 0x12#8], .call_nn 0x1234#16), ([0xCE#8, 0x5A#8], .adc_a_n 0x5A#8), ([0xCF#8], .rst_08),
   ([0xD0#8], .ret_nc), ([0xD1#8], .pop_de), ([0xD2#8, 0x34#8, 0x12#8], .jp_nc_nn 0x1234#16),
   ([0xD3#8], .unassigned_d3), ([0xD4#8, 0x34#8, 0x12#8], .call_nc_nn 0x1234#16), ([0xD5#8], .push_de),
   ([0xD6#8, 0x5A#8], .sub_n 0x5A#8), ([0xD7#8], .rst_10), ([0xD8#8], .ret_c), ([0xD9#8], .reti),
   ([0xDA#8, 0x34#8, 0x12#8], .jp_c_nn 0x1234#16), ([0xDB#8], .unassigned_db),
   ([0xDC#8, 0x34#8, 0x12#8], .call_c_nn 0x1234#16), ([0xDD#8], .unassigned_dd), ([0xDE#8, 0x5A#8], .sbc_a_n 0x5A#8),
   ([0xDF#8], .rst_18), ([0xE0#8, 0x5A#8], .ldh_mN_a 0x5A#8), ([0xE1#8], .pop_hl), ([0xE2#8], .ldh_mC_a),
   ([0xE3#8], .unassigned_e3), ([0xE4#8], .unassigned_e4), ([0xE5#8], .push_hl), ([0xE6#8, 0x5A#8], .and_n 0x5A#8),
   ([0xE7#8], .rst_20), ([0xE8#8, 0xFB#8], .add_sp_e 0xFB#8), ([0xE9#8], .jp_hl),
   ([0xEA#8, 0x34#8, 0x12#8], .ld_mNn_a 0x1234#16), ([0xEB#8], .unassigned_eb), ([0xEC#8], .unassigned_ec),
   ([0xED#8], .unassigned_ed), ([0xEE#8, 0x5A#8], .xor_n 0x5A#8), ([0xEF#8], .rst_28),
   ([0xF0#8, 0x5A#8], .ldh_a_mN 0x5A#8), ([0xF1#8], .pop_af), ([0xF2#8], .ldh_a_mC), ([0xF3#8], .di),
   ([0xF4#8], .unassigned_f4), ([0xF5#8], .push_af), ([0xF6#8, 0x5A#8], .or_n 0x5A#8), ([0xF7#8], .rst_30),
   ([0xF8#8, 0xFB#8], .ld_hl_spE 0xFB#8), ([0xF9#8], .ld_sp_hl), ([0xFA#8, 0x34#8, 0x12#8], .ld_a_mNn 0x1234#16),
   ([0xFB#8], .ei), ([0xFC#8], .unassigned_fc), ([0xFD#8], .unassigned_fd), ([0xFE#8, 0x5A#8], .cp_n 0x5A#8),
   ([0xFF#8], .rst_38)]

theorem test_decode_op_3 : decodes words_op_3 = true := by decide +kernel

def words_cb_0 : List (List Byte × Instr) :=
  [([0xCB#8, 0x00#8], .rlc_b), ([0xCB#8, 0x01#8], .rlc_c), ([0xCB#8, 0x02#8], .rlc_d), ([0xCB#8, 0x03#8], .rlc_e),
   ([0xCB#8, 0x04#8], .rlc_h), ([0xCB#8, 0x05#8], .rlc_l), ([0xCB#8, 0x06#8], .rlc_mHl), ([0xCB#8, 0x07#8], .rlc_a),
   ([0xCB#8, 0x08#8], .rrc_b), ([0xCB#8, 0x09#8], .rrc_c), ([0xCB#8, 0x0A#8], .rrc_d), ([0xCB#8, 0x0B#8], .rrc_e),
   ([0xCB#8, 0x0C#8], .rrc_h), ([0xCB#8, 0x0D#8], .rrc_l), ([0xCB#8, 0x0E#8], .rrc_mHl), ([0xCB#8, 0x0F#8], .rrc_a),
   ([0xCB#8, 0x10#8], .rl_b), ([0xCB#8, 0x11#8], .rl_c), ([0xCB#8, 0x12#8], .rl_d), ([0xCB#8, 0x13#8], .rl_e),
   ([0xCB#8, 0x14#8], .rl_h), ([0xCB#8, 0x15#8], .rl_l), ([0xCB#8, 0x16#8], .rl_mHl), ([0xCB#8, 0x17#8], .rl_a),
   ([0xCB#8, 0x18#8], .rr_b), ([0xCB#8, 0x19#8], .rr_c), ([0xCB#8, 0x1A#8], .rr_d), ([0xCB#8, 0x1B#8], .rr_e),
   ([0xCB#8, 0x1C#8], .rr_h), ([0xCB#8, 0x1D#8], .rr_l), ([0xCB#8, 0x1E#8], .rr_mHl), ([0xCB#8, 0x1F#8], .rr_a),
   ([0xCB#8, 0x20#8], .sla_b), ([0xCB#8, 0x21#8], .sla_c), ([0xCB#8, 0x22#8], .sla_d), ([0xCB#8, 0x23#8], .sla_e),
   ([0xCB#8, 0x24#8], .sla_h), ([0xCB#8, 0x25#8], .sla_l), ([0xCB#8, 0x26#8], .sla_mHl), ([0xCB#8, 0x27#8], .sla_a),
   ([0xCB#8, 0x28#8], .sra_b), ([0xCB#8, 0x29#8], .sra_c), ([0xCB#8, 0x2A#8], .sra_d), ([0xCB#8, 0x2B#8], .sra_e),
   ([0xCB#8, 0x2C#8], .sra_h), ([0xCB#8, 0x2D#8], .sra_l), ([0xCB#8, 0x2E#8], .sra_mHl), ([0xCB#8, 0x2F#8], .sra_a),
   ([0xCB#8, 0x30#8], .swap_b), ([0xCB#8, 0x31#8], .swap_c), ([0xCB#8, 0x32#8], .swap_d), ([0xCB#8, 0x33#8], .swap_e),
   ([0xCB#8, 0x34#8], .swap_h), ([0xCB#8, 0x35#8], .swap_l), ([0xCB#8, 0x36#8], .swap_mHl),
   ([0xCB#8, 0x37#8], .swap_a), ([0xCB#8, 0x38#8], .srl_b), ([0xCB#8, 0x39#8], .srl_c), ([0xCB#8, 0x3A#8], .srl_d),
   ([0xCB#8, 0x3B#8], .srl_e), ([0xCB#8, 0x3C#8], .srl_h), ([0xCB#8, 0x3D#8], .srl_l), ([0xCB#8, 0x3E#8], .srl_mHl),
   ([0xCB#8, 0x3F#8], .srl_a)]

theorem test_decode_cb_0 : decodes words_cb_0 = true := by decide +kernel

def words_cb_1 : List (List Byte × Instr) :=
  [([0xCB#8, 0x40#8], .bit_0_b), ([0xCB#8, 0x41#8], .bit_0_c), ([0xCB#8, 0x42#8], .bit_0_d),
   ([0xCB#8, 0x43#8], .bit_0_e), ([0xCB#8, 0x44#8], .bit_0_h), ([0xCB#8, 0x45#8], .bit_0_l),
   ([0xCB#8, 0x46#8], .bit_0_mHl), ([0xCB#8, 0x47#8], .bit_0_a), ([0xCB#8, 0x48#8], .bit_1_b),
   ([0xCB#8, 0x49#8], .bit_1_c), ([0xCB#8, 0x4A#8], .bit_1_d), ([0xCB#8, 0x4B#8], .bit_1_e),
   ([0xCB#8, 0x4C#8], .bit_1_h), ([0xCB#8, 0x4D#8], .bit_1_l), ([0xCB#8, 0x4E#8], .bit_1_mHl),
   ([0xCB#8, 0x4F#8], .bit_1_a), ([0xCB#8, 0x50#8], .bit_2_b), ([0xCB#8, 0x51#8], .bit_2_c),
   ([0xCB#8, 0x52#8], .bit_2_d), ([0xCB#8, 0x53#8], .bit_2_e), ([0xCB#8, 0x54#8], .bit_2_h),
   ([0xCB#8, 0x55#8], .bit_2_l), ([0xCB#8, 0x56#8], .bit_2_mHl), ([0xCB#8, 0x57#8], .bit_2_a),
   ([0xCB#8, 0x58#8], .bit_3_b), ([0xCB#8, 0x59#8], .bit_3_c), ([0xCB#8, 0x5A#8], .bit_3_d),
   ([0xCB#8, 0x5B#8], .bit_3_e), ([0xCB#8, 0x5C#8], .bit_3_h), ([0xCB#8, 0x5D#8], .bit_3_l),
   ([0xCB#8, 0x5E#8], .bit_3_mHl), ([0xCB#8, 0x5F#8], .bit_3_a), ([0xCB#8, 0x60#8], .bit_4_b),
   ([0xCB#8, 0x61#8], .bit_4_c), ([0xCB#8, 0x62#8], .bit_4_d), ([0xCB#8, 0x63#8], .bit_4_e),
   ([0xCB#8, 0x64#8], .bit_4_h), ([0xCB#8, 0x65#8], .bit_4_l), ([0xCB#8, 0x66#8], .bit_4_mHl),
   ([0xCB#8, 0x67#8], .bit_4_a), ([0xCB#8, 0x68#8], .bit_5_b), ([0xCB#8, 0x69#8], .bit_5_c),
   ([0xCB#8, 0x6A#8], .bit_5_d), ([0xCB#8, 0x6B#8], .bit_5_e), ([0xCB#8, 0x6C#8], .bit_5_h),
   ([0xCB#8, 0x6D#8], .bit_5_l), ([0xCB#8, 0x6E#8], .bit_5_mHl), ([0xCB#8, 0x6F#8], .bit_5_a),
   ([0xCB#8, 0x70#8], .bit_6_b), ([0xCB#8, 0x71#8], .bit_6_c), ([0xCB#8, 0x72#8], .bit_6_d),
   ([0xCB#8, 0x73#8], .bit_6_e), ([0xCB#8, 0x74#8], .bit_6_h), ([0xCB#8, 0x75#8], .bit_6_l),
   ([0xCB#8, 0x76#8], .bit_6_mHl), ([0xCB#8, 0x77#8], .bit_6_a), ([0xCB#8, 0x78#8], .bit_7_b),
   ([0xCB#8, 0x79#8], .bit_7_c), ([0xCB#8, 0x7A#8], .bit_7_d), ([0xCB#8, 0x7B#8], .bit_7_e),
   ([0xCB#8, 0x7C#8], .bit_7_h), ([0xCB#8, 0x7D#8], .bit_7_l), ([0xCB#8, 0x7E#8], .bit_7_mHl),
   ([0xCB#8, 0x7F#8], .bit_7_a)]

theorem test_decode_cb_1 : decodes words_cb_1 = true := by decide +kernel

def words_cb_2 : List (List Byte × Instr) :=
  [([0xCB#8, 0x80#8], .res_0_b), ([0xCB#8, 0x81#8], .res_0_c), ([0xCB#8, 0x82#8], .res_0_d),
   ([0xCB#8, 0x83#8], .res_0_e), ([0xCB#8, 0x84#8], .res_0_h), ([0xCB#8, 0x85#8], .res_0_l),
   ([0xCB#8, 0x86#8], .res_0_mHl), ([0xCB#8, 0x87#8], .res_0_a), ([0xCB#8, 0x88#8], .res_1_b),
   ([0xCB#8, 0x89#8], .res_1_c), ([0xCB#8, 0x8A#8], .res_1_d), ([0xCB#8, 0x8B#8], .res_1_e),
   ([0xCB#8, 0x8C#8], .res_1_h), ([0xCB#8, 0x8D#8], .res_1_l), ([0xCB#8, 0x8E#8], .res_1_mHl),
   ([0xCB#8, 0x8F#8], .res_1_a), ([0xCB#8, 0x90#8], .res_2_b), ([0xCB#8, 0x91#8], .res_2_c),
   ([0xCB#8, 0x92#8], .res_2_d), ([0xCB#8, 0x93#8], .res_2_e), ([0xCB#8, 0x94#8], .res_2_h),
   ([0xCB#8, 0x95#8], .res_2_l), ([0xCB#8, 0x96#8], .res_2_mHl), ([0xCB#8, 0x97#8], .res_2_a),
   ([0xCB#8, 0x98#8], .res_3_b), ([0xCB#8, 0x99#8], .res_3_c), ([0xCB#8, 0x9A#8], .res_3_d),
   ([0xCB#8, 0x9B#8], .res_3_e), ([0xCB#8, 0x9C#8], .res_3_h), ([0xCB#8, 0x9D#8], .res_3_l),
   ([0xCB#8, 0x9E#8], .res_3_mHl), ([0xCB#8, 0x9F#8], .res_3_a), ([0xCB#8, 0xA0#8], .res_4_b),
   ([0xCB#8, 0xA1#8], .res_4_c), ([0xCB#8, 0xA2#8], .res_4_d), ([0xCB#8, 0xA3#8], .res_4_e),
   ([0xCB#8, 0xA4#8], .res_4_h), ([0xCB#8, 0xA5#8], .res_4_l), ([0xCB#8, 0xA6#8], .res_4_mHl),
   ([0xCB#8, 0xA7#8], .res_4_a), ([0xCB#8, 0xA8#8], .res_5_b), ([0xCB#8, 0xA9#8], .res_5_c),
   ([0xCB#8, 0xAA#8], .res_5_d), ([0xCB#8, 0xAB#8], .res_5_e), ([0xCB#8, 0xAC#8], .res_5_h),
   ([0xCB#8, 0xAD#8], .res_5_l), ([0xCB#8, 0xAE#8], .res_5_mHl), ([0xCB#8, 0xAF#8], .res_5_a),
   ([0xCB#8, 0xB0#8], .res_6_b), ([0xCB#8, 0xB1#8], .res_6_c), ([0xCB#8, 0xB2#8], .res_6_d),
   ([0xCB#8, 0xB3#8], .res_6_e), ([0xCB#8, 0xB4#8], .res_6_h), ([0xCB#8, 0xB5#8], .res_6_l),
   ([0xCB#8, 0xB6#8], .res_6_mHl), ([0xCB#8, 0xB7#8], .res_6_a), ([0xCB#8, 0xB8#8], .res_7_b),
   ([0xCB#8, 0xB9#8], .res_7_c), ([0xCB#8, 0xBA#8], .res_7_d), ([0xCB#8, 0xBB#8], .res_7_e),
   ([0xCB#8, 0xBC#8], .res_7_h), ([0xCB#8, 0xBD#8], .res_7_l), ([0xCB#8, 0xBE#8], .res_7_mHl),
   ([0xCB#8, 0xBF#8], .res_7_a)]

theorem test_decode_cb_2 : decodes words_cb_2 = true := by decide +kernel

def words_cb_3 : List (List Byte × Instr) :=
  [([0xCB#8, 0xC0#8], .set_0_b), ([0xCB#8, 0xC1#8], .set_0_c), ([0xCB#8, 0xC2#8], .set_0_d),
   ([0xCB#8, 0xC3#8], .set_0_e), ([0xCB#8, 0xC4#8], .set_0_h), ([0xCB#8, 0xC5#8], .set_0_l),
   ([0xCB#8, 0xC6#8], .set_0_mHl), ([0xCB#8, 0xC7#8], .set_0_a), ([0xCB#8, 0xC8#8], .set_1_b),
   ([0xCB#8, 0xC9#8], .set_1_c), ([0xCB#8, 0xCA#8], .set_1_d), ([0xCB#8, 0xCB#8], .set_1_e),
   ([0xCB#8, 0xCC#8], .set_1_h), ([0xCB#8, 0xCD#8], .set_1_l), ([0xCB#8, 0xCE#8], .set_1_mHl),
   ([0xCB#8, 0xCF#8], .set_1_a), ([0xCB#8, 0xD0#8], .set_2_b), ([0xCB#8, 0xD1#8], .set_2_c),
   ([0xCB#8, 0xD2#8], .set_2_d), ([0xCB#8, 0xD3#8], .set_2_e), ([0xCB#8, 0xD4#8], .set_2_h),
   ([0xCB#8, 0xD5#8], .set_2_l), ([0xCB#8, 0xD6#8], .set_2_mHl), ([0xCB#8, 0xD7#8], .set_2_a),
   ([0xCB#8, 0xD8#8], .set_3_b), ([0xCB#8, 0xD9#8], .set_3_c), ([0xCB#8, 0xDA#8], .set_3_d),
   ([0xCB#8, 0xDB#8], .set_3_e), ([0xCB#8, 0xDC#8], .set_3_h), ([0xCB#8, 0xDD#8], .set_3_l),
   ([0xCB#8, 0xDE#8], .set_3_mHl), ([0xCB#8, 0xDF#8], .set_3_a), ([0xCB#8, 0xE0#8], .set_4_b),
   ([0xCB#8, 0xE1#8], .set_4_c), ([0xCB#8, 0xE2#8], .set_4_d), ([0xCB#8, 0xE3#8], .set_4_e),
   ([0xCB#8, 0xE4#8], .set_4_h), ([0xCB#8, 0xE5#8], .set_4_l), ([0xCB#8, 0xE6#8], .set_4_mHl),
   ([0xCB#8, 0xE7#8], .set_4_a), ([0xCB#8, 0xE8#8], .set_5_b), ([0xCB#8, 0xE9#8], .set_5_c),
   ([0xCB#8, 0xEA#8], .set_5_d), ([0xCB#8, 0xEB#8], .set_5_e), ([0xCB#8, 0xEC#8], .set_5_h),
   ([0xCB#8, 0xED#8], .set_5_l), ([0xCB#8, 0xEE#8], .set_5_mHl), ([0xCB#8, 0xEF#8], .set_5_a),
   ([0xCB#8, 0xF0#8], .set_6_b), ([0xCB#8, 0xF1#8], .set_6_c), ([0xCB#8, 0xF2#8], .set_6_d),
   ([0xCB#8, 0xF3#8], .set_6_e), ([0xCB#8, 0xF4#8], .set_6_h), ([0xCB#8, 0xF5#8], .set_6_l),
   ([0xCB#8, 0xF6#8], .set_6_mHl), ([0xCB#8, 0xF7#8], .set_6_a), ([0xCB#8, 0xF8#8], .set_7_b),
   ([0xCB#8, 0xF9#8], .set_7_c), ([0xCB#8, 0xFA#8], .set_7_d), ([0xCB#8, 0xFB#8], .set_7_e),
   ([0xCB#8, 0xFC#8], .set_7_h), ([0xCB#8, 0xFD#8], .set_7_l), ([0xCB#8, 0xFE#8], .set_7_mHl),
   ([0xCB#8, 0xFF#8], .set_7_a)]

theorem test_decode_cb_3 : decodes words_cb_3 = true := by decide +kernel

/-- The host's numbering: the first byte of an instruction is the low byte of the number (log entry 6). -/
theorem test_table_word_swap_a : decodeTableWord 16 0x37CB = some .swap_a := by decide +kernel
theorem test_table_word_jp : decodeTableWord 8 0xC3 = some (.jp_nn 0x0000#16) := by decide +kernel

/-! ### Reset -/

/-- The reset state is the machine that the skip-boot reset with the default parameters constructs. -/
theorem test_reset_is_constructed : construct Params.default Cart.blank none true [] = .ok State.reset := by rfl

/-- No machine for the unknown type code 0x04 (R100). -/
theorem test_unknown_type : parseHeader { len := 0x8000, bytes := [(0x147, 0x04#8)] } = .error .unknownType := by rfl

/-- MBC2 ignores the RAM size code (R100): 0xFF is accepted of it and refused of MBC1. -/
theorem test_mbc2_ignores_ram_size :
    parseHeader { len := 0x8000, bytes := [(0x147, 0x05#8), (0x149, 0xFF#8)] } =
      .ok { mbcType := .mbc2, romBanks := 2, ramBanks := 0 } ∧
    parseHeader { len := 0x8000, bytes := [(0x147, 0x01#8), (0x149, 0xFF#8)] } = .error .unknownRamSize := ⟨rfl, rfl⟩

/-! ### Single steps: the unit vectors of spec/95_test_vectors.md section 2 -/

/-- The machine of section 2.0: registers 0, SP = 0xFFFE, PC = 0xC000. -/
def bench : State := { State.reset with cpu := { Cpu.cold with sp := 0xFFFE#16, pc := 0xC000#16 } }

/-- One `Step()` of the bench machine with these code bytes, CPU registers and memory bytes, of c cycles, meets p. -/
def ran (code : List Byte) (u : Cpu) (cells : List (Nat × Byte)) (c : Nat) (p : State → Bool) : Bool :=
  let mem := cells.foldl (fun m x => Memory.write m x.1 x.2) []
  match cpuStep (placeBytes 0xC000 code { bench with cpu := u, mem := mem }) with
  | .next t => t.charged == c && p t
  | _ => false

theorem test_vl1_ld_b_c : ran [0x41#8] { bench.cpu with b := 0x12#8, c := 0x34#8 } [] 4
    (fun t => t.cpu.b == 0x34#8 && t.cpu.pc == 0xC001#16) = true := by decide +kernel

theorem test_vl4_ld_a_n : ran [0x3E#8, 0x14#8] bench.cpu [] 8
    (fun t => t.cpu.a == 0x14#8 && t.cpu.pc == 0xC002#16) = true := by decide +kernel

theorem test_vl6_ld_a_hl : ran [0x7E#8] { bench.cpu with h := 0xC1#8, l := 0x00#8 } [(0xC100, 0x5A#8)] 8
    (fun t => t.cpu.a == 0x5A#8 && t.cpu.pc == 0xC001#16) = true := by decide +kernel

theorem test_vl8_ld_hl_b : ran [0x70#8] { bench.cpu with h := 0xC0#8, l := 0x10#8, b := 0x99#8 } [] 8
    (fun t => t.cpu.pc == 0xC001#16 && load 0xC010 t == 0x99#8) = true := by decide +kernel

theorem test_vl11_ld_hl_n : ran [0x36#8, 0x7F#8] { bench.cpu with h := 0xC1#8, l := 0x00#8 } [] 12
    (fun t => t.cpu.pc == 0xC002#16 && load 0xC100 t == 0x7F#8) = true := by decide +kernel

theorem test_vl12_ld_a_bc : ran [0x0A#8] { bench.cpu with b := 0xC1#8, c := 0x23#8 } [(0xC123, 0x42#8)] 8
    (fun t => t.cpu.a == 0x42#8 && t.cpu.pc == 0xC001#16) = true := by decide +kernel

theorem test_vl14_ld_bc_a : ran [0x02#8] { bench.cpu with b := 0xC2#8, c := 0x00#8, a := 0x01#8 } [] 8
    (fun t => t.cpu.pc == 0xC001#16 && load 0xC200 t == 0x01#8) = true := by decide +kernel

theorem test_vl17_ld_a_nn : ran [0xFA#8, 0x00#8, 0xC1#8] bench.cpu [(0xC100, 0x77#8)] 16
    (fun t => t.cpu.a == 0x77#8 && t.cpu.pc == 0xC003#16) = true := by decide +kernel

theorem test_vl22_ld_nn_a : ran [0xEA#8, 0x00#8, 0xE1#8] { bench.cpu with a := 0x6D#8 } [] 16
    (fun t => t.cpu.pc == 0xC003#16 && load 0xC100 t == 0x6D#8 && load 0xE100 t == 0x6D#8) = true := by decide +kernel

theorem test_vl25_ldh_a_n : ran [0xF0#8, 0x41#8] bench.cpu [] 12
    (fun t => t.cpu.a == 0x85#8 && t.cpu.pc == 0xC002#16) = true := by decide +kernel

theorem test_vl27_ldh_n_a : ran [0xE0#8, 0x80#8] { bench.cpu with a := 0x3C#8 } [] 12
    (fun t => t.cpu.pc == 0xC002#16 && load 0xFF80 t == 0x3C#8) = true := by decide +kernel

theorem test_vl36_ldh_c_a : ran [0xE2#8] { bench.cpu with c := 0x80#8, a := 0x3C#8 } [] 8
    (fun t => t.cpu.pc == 0xC001#16 && load 0xFF80 t == 0x3C#8) = true := by decide +kernel

theorem test_vl38_ld_mhli_a : ran [0x22#8] { bench.cpu with h := 0xC1#8, l := 0x00#8, a := 0xAA#8 } [] 8
    (fun t => t.cpu.l == 0x01#8 && t.cpu.pc == 0xC001#16 && load 0xC100 t == 0xAA#8) = true := by decide +kernel

theorem test_vl40_ld_a_mhli : ran [0x2A#8] { bench.cpu with h := 0xC0#8, l := 0xFF#8 } [(0xC0FF, 0x77#8)] 8
    (fun t => t.cpu.a == 0x77#8 && t.cpu.h == 0xC1#8 && t.cpu.l == 0x00#8 &&
      t.cpu.pc == 0xC001#16) = true := by decide +kernel

theorem test_vl41_ld_mhld_a : ran [0x32#8] { bench.cpu with h := 0xC1#8, l := 0x00#8, a := 0xAA#8 } [] 8
    (fun t => t.cpu.h == 0xC0#8 && t.cpu.l == 0xFF#8 && t.cpu.pc == 0xC001#16 &&
      load 0xC100 t == 0xAA#8) = true := by decide +kernel

theorem test_vl43_ld_a_mhld : ran [0x3A#8] { bench.cpu with h := 0xC1#8, l := 0x01#8 } [(0xC101, 0x10#8)] 8
    (fun t => t.cpu.a == 0x10#8 && t.cpu.l == 0x00#8 && t.cpu.pc == 0xC001#16) = true := by decide +kernel

theorem test_vw1_ld_hl_nn : ran [0x21#8, 0x4D#8, 0x01#8] bench.cpu [] 12
    (fun t => t.cpu.h == 0x01#8 && t.cpu.l == 0x4D#8 && t.cpu.pc == 0xC003#16) = true := by decide +kernel

theorem test_vw4_ld_nn_sp : ran [0x08#8, 0x00#8, 0xC1#8] { bench.cpu with sp := 0xFFF8#16 } [] 20
    (fun t => t.cpu.pc == 0xC003#16 && load 0xC100 t == 0xF8#8 && load 0xC101 t == 0xFF#8) = true := by decide +kernel

theorem test_vw6_ld_sp_hl : ran [0xF9#8] { bench.cpu with h := 0xDF#8, l := 0xFF#8 } [] 8
    (fun t => t.cpu.sp == 0xDFFF#16 && t.cpu.pc == 0xC001#16) = true := by decide +kernel

theorem test_vw7_ld_hl_sppluse : ran [0xF8#8, 0x08#8] { bench.cpu with sp := 0xFFF8#16 } [] 12
    (fun t => t.cpu.f == 0x30#8 && t.cpu.pc == 0xC002#16) = true := by decide +kernel

theorem test_vw12_push_bc : ran [0xC5#8] { bench.cpu with b := 0x12#8, c := 0x34#8 } [] 16
    (fun t => t.cpu.sp == 0xFFFC#16 && t.cpu.pc == 0xC001#16 && load 0xFFFD t == 0x12#8 &&
      load 0xFFFC t == 0x34#8) = true := by decide +kernel

theorem test_vw15_pop_bc : ran [0xC1#8] { bench.cpu with sp := 0xFFFC#16 } [(0xFFFC, 0x34#8), (0xFFFD, 0x12#8)] 12
    (fun t => t.cpu.b == 0x12#8 && t.cpu.c == 0x34#8 && t.cpu.sp == 0xFFFE#16 &&
      t.cpu.pc == 0xC001#16) = true := by decide +kernel

theorem test_va1_add_a_b : ran [0x80#8] { bench.cpu with a := 0x00#8, b := 0x00#8 } [] 4
    (fun t => t.cpu.f == 0x80#8 && t.cpu.pc == 0xC001#16) = true := by decide +kernel

theorem test_va4_sub_b : ran [0x90#8] { bench.cpu with a := 0x80#8, b := 0x01#8 } [] 4
    (fun t => t.cpu.a == 0x7F#8 && t.cpu.f == 0x60#8 && t.cpu.pc == 0xC001#16) = true := by decide +kernel

theorem test_va7_add_a_n : ran [0xC6#8, 0xFF#8] { bench.cpu with a := 0x3C#8 } [] 8
    (fun t => t.cpu.a == 0x3B#8 && t.cpu.f == 0x30#8 && t.cpu.pc == 0xC002#16) = true := by decide +kernel

theorem test_va8_add_a_hl : ran [0x86#8] { bench.cpu with a := 0x3C#8, h := 0xC1#8, l := 0x00#8 } [(0xC100, 0x12#8)] 8
    (fun t => t.cpu.a == 0x4E#8 && t.cpu.pc == 0xC001#16) = true := by decide +kernel

theorem test_va9_adc_a_e : ran [0x8B#8] { bench.cpu with a := 0xE1#8, e := 0x0F#8, f := 0x10#8 } [] 4
    (fun t => t.cpu.a == 0xF1#8 && t.cpu.f == 0x20#8 && t.cpu.pc == 0xC001#16) = true := by decide +kernel

theorem test_va13_adc_a_n : ran [0xCE#8, 0x3B#8] { bench.cpu with a := 0xE1#8, f := 0x10#8 } [] 8
    (fun t => t.cpu.a == 0x1D#8 && t.cpu.pc == 0xC002#16) = true := by decide +kernel

theorem test_va14_adc_a_hl : ran [0x8E#8]
      { bench.cpu with a := 0xE1#8, h := 0xC1#8, l := 0x00#8, f := 0x10#8 } [(0xC100, 0x1E#8)] 8
    (fun t => t.cpu.a == 0x00#8 && t.cpu.f == 0xB0#8 && t.cpu.pc == 0xC001#16) = true := by decide +kernel

theorem test_va18_sub_n : ran [0xD6#8, 0x0F#8] { bench.cpu with a := 0x3E#8 } [] 8
    (fun t => t.cpu.a == 0x2F#8 && t.cpu.f == 0x60#8 && t.cpu.pc == 0xC002#16) = true := by decide +kernel

theorem test_va19_sub_hl : ran [0x96#8] { bench.cpu with a := 0x3E#8, h := 0xC1#8, l := 0x00#8 } [(0xC100, 0x40#8)] 8
    (fun t => t.cpu.a == 0xFE#8 && t.cpu.f == 0x50#8 && t.cpu.pc == 0xC001#16) = true := by decide +kernel

theorem test_va20_sbc_a_h : ran [0x9C#8] { bench.cpu with a := 0x3B#8, h := 0x2A#8, f := 0x10#8 } [] 4
    (fun t => t.cpu.a == 0x10#8 && t.cpu.f == 0x40#8 && t.cpu.pc == 0xC001#16) = true := by decide +kernel

theorem test_va24_sbc_a_n : ran [0xDE#8, 0x3A#8] { bench.cpu with a := 0x3B#8, f := 0x10#8 } [] 8
    (fun t => t.cpu.a == 0x00#8 && t.cpu.f == 0xC0#8 && t.cpu.pc == 0xC002#16) = true := by decide +kernel

theorem test_va25_sbc_a_hl : ran [0x9E#8]
      { bench.cpu with a := 0x3B#8, h := 0xC1#8, l := 0x00#8, f := 0x10#8 } [(0xC100, 0x4F#8)] 8
    (fun t => t.cpu.a == 0xEB#8 && t.cpu.f == 0x70#8 && t.cpu.pc == 0xC001#16) = true := by decide +kernel

theorem test_va26_and_l : ran [0xA5#8] { bench.cpu with a := 0x5A#8, l := 0x3F#8, f := 0x10#8 } [] 4
    (fun t => t.cpu.a == 0x1A#8 && t.cpu.f == 0x20#8 && t.cpu.pc == 0xC001#16) = true := by decide +kernel

theorem test_va28_and_n : ran [0xE6#8, 0x38#8] { bench.cpu with a := 0x5A#8 } [] 8
    (fun t => t.cpu.a == 0x18#8 && t.cpu.f == 0x20#8 && t.cpu.pc == 0xC002#16) = true := by decide +kernel

theorem test_va29_and_hl : ran [0xA6#8] { bench.cpu with a := 0x5A#8, h := 0xC1#8, l := 0x00#8 } [(0xC100, 0x00#8)] 8
    (fun t => t.cpu.a == 0x00#8 && t.cpu.f == 0xA0#8 && t.cpu.pc == 0xC001#16) = true := by decide +kernel

theorem test_va30_xor_a : ran [0xAF#8] { bench.cpu with a := 0xFF#8, f := 0xF0#8 } [] 4
    (fun t => t.cpu.a == 0x00#8 && t.cpu.f == 0x80#8 && t.cpu.pc == 0xC001#16) = true := by decide +kernel

theorem test_va32_xor_n : ran [0xEE#8, 0x0F#8] { bench.cpu with a := 0xFF#8 } [] 8
    (fun t => t.cpu.a == 0xF0#8 && t.cpu.pc == 0xC002#16) = true := by decide +kernel

theorem test_va33_xor_hl : ran [0xAE#8] { bench.cpu with a := 0xFF#8, h := 0xC1#8, l := 0x00#8 } [(0xC100, 0x8A#8)] 8
    (fun t => t.cpu.a == 0x75#8 && t.cpu.pc == 0xC001#16) = true := by decide +kernel

theorem test_va34_or_a : ran [0xB7#8] { bench.cpu with a := 0x00#8, f := 0x70#8 } [] 4
    (fun t => t.cpu.f == 0x80#8 && t.cpu.pc == 0xC001#16) = true := by decide +kernel

theorem test_va36_or_n : ran [0xF6#8, 0x03#8] { bench.cpu with a := 0x5A#8 } [] 8
    (fun t => t.cpu.a == 0x5B#8 && t.cpu.pc == 0xC002#16) = true := by decide +kernel

theorem test_va37_or_hl : ran [0xB6#8] { bench.cpu with a := 0x5A#8, h := 0xC1#8, l := 0x00#8 } [(0xC100, 0x0F#8)] 8
    (fun t => t.cpu.a == 0x5F#8 && t.cpu.pc == 0xC001#16) = true := by decide +kernel

theorem test_va38_cp_b : ran [0xB8#8] { bench.cpu with a := 0x3C#8, b := 0x2F#8 } [] 4
    (fun t => t.cpu.f == 0x60#8 && t.cpu.pc == 0xC001#16) = true := by decide +kernel

theorem test_va41_cp_n : ran [0xFE#8, 0x90#8] { bench.cpu with a := 0x3C#8 } [] 8
    (fun t => t.cpu.f == 0x50#8 && t.cpu.pc == 0xC002#16) = true := by decide +kernel

theorem test_va42_cp_hl : ran [0xBE#8] { bench.cpu with a := 0x3C#8, h := 0xC1#8, l := 0x00#8 } [(0xC100, 0x40#8)] 8
    (fun t => t.cpu.f == 0x50#8 && t.cpu.pc == 0xC001#16) = true := by decide +kernel

theorem test_va43_inc_b : ran [0x04#8] { bench.cpu with b := 0xFF#8, f := 0x10#8 } [] 4
    (fun t => t.cpu.f == 0xB0#8 && t.cpu.b == 0x00#8 && t.cpu.pc == 0xC001#16) = true := by decide +kernel

theorem test_va46_inc_hl : ran [0x34#8] { bench.cpu with h := 0xC1#8, l := 0x00#8 } [(0xC100, 0x50#8)] 12
    (fun t => t.cpu.pc == 0xC001#16 && load 0xC100 t == 0x51#8) = true := by decide +kernel

theorem test_va48_dec_b : ran [0x05#8] { bench.cpu with b := 0x01#8 } [] 4
    (fun t => t.cpu.f == 0xC0#8 && t.cpu.b == 0x00#8 && t.cpu.pc == 0xC001#16) = true := by decide +kernel

theorem test_va51_dec_hl : ran [0x35#8] { bench.cpu with h := 0xC1#8, l := 0x00#8 } [(0xC100, 0x00#8)] 12
    (fun t => t.cpu.f == 0x60#8 && t.cpu.pc == 0xC001#16 && load 0xC100 t == 0xFF#8) = true := by decide +kernel

theorem test_va54_daa : ran [0x27#8] { bench.cpu with a := 0x9A#8, f := 0x00#8 } [] 4
    (fun t => t.cpu.a == 0x00#8 && t.cpu.f == 0x90#8 && t.cpu.pc == 0xC001#16) = true := by decide +kernel

theorem test_va65_cpl : ran [0x2F#8] { bench.cpu with a := 0x35#8, f := 0x90#8 } [] 4
    (fun t => t.cpu.a == 0xCA#8 && t.cpu.f == 0xF0#8 && t.cpu.pc == 0xC001#16) = true := by decide +kernel

theorem test_va67_scf : ran [0x37#8] { bench.cpu with f := 0xE0#8 } [] 4
    (fun t => t.cpu.f == 0x90#8 && t.cpu.pc == 0xC001#16) = true := by decide +kernel

theorem test_va69_ccf : ran [0x3F#8] { bench.cpu with f := 0xF0#8 } [] 4
    (fun t => t.cpu.f == 0x80#8 && t.cpu.pc == 0xC001#16) = true := by decide +kernel

theorem test_vx1_add_hl_bc : ran [0x09#8] { bench.cpu with h := 0x8A#8, l := 0x23#8, b := 0x06#8, c := 0x05#8 } [] 8
    (fun t => t.cpu.f == 0x20#8 && t.cpu.h == 0x90#8 && t.cpu.l == 0x28#8 &&
      t.cpu.pc == 0xC001#16) = true := by decide +kernel

theorem test_vx6_inc_bc : ran [0x03#8] { bench.cpu with b := 0xFF#8, c := 0xFF#8, f := 0xF0#8 } [] 8
    (fun t => t.cpu.b == 0x00#8 && t.cpu.c == 0x00#8 && t.cpu.pc == 0xC001#16) = true := by decide +kernel

theorem test_vx9_dec_de : ran [0x1B#8] { bench.cpu with d := 0x00#8, e := 0x00#8, f := 0x00#8 } [] 8
    (fun t => t.cpu.d == 0xFF#8 && t.cpu.e == 0xFF#8 && t.cpu.pc == 0xC001#16) = true := by decide +kernel

theorem test_vx12_add_sp_e : ran [0xE8#8, 0x02#8] { bench.cpu with sp := 0xFFF8#16 } [] 16
    (fun t => t.cpu.sp == 0xFFFA#16 && t.cpu.pc == 0xC002#16) = true := by decide +kernel

theorem test_vr1_rlca : ran [0x07#8] { bench.cpu with a := 0x85#8 } [] 4
    (fun t => t.cpu.a == 0x0B#8 && t.cpu.f == 0x10#8 && t.cpu.pc == 0xC001#16) = true := by decide +kernel

theorem test_vr3_rrca : ran [0x0F#8] { bench.cpu with a := 0x3B#8 } [] 4
    (fun t => t.cpu.a == 0x9D#8 && t.cpu.f == 0x10#8 && t.cpu.pc == 0xC001#16) = true := by decide +kernel

theorem test_vr4_rla : ran [0x17#8] { bench.cpu with a := 0x95#8, f := 0x10#8 } [] 4
    (fun t => t.cpu.a == 0x2B#8 && t.cpu.pc == 0xC001#16) = true := by decide +kernel

theorem test_vr6_rra : ran [0x1F#8] { bench.cpu with a := 0x81#8, f := 0x00#8 } [] 4
    (fun t => t.cpu.a == 0x40#8 && t.cpu.f == 0x10#8 && t.cpu.pc == 0xC001#16) = true := by decide +kernel

theorem test_vr8_rlc_b : ran [0xCB#8, 0x00#8] { bench.cpu with b := 0x85#8 } [] 8
    (fun t => t.cpu.f == 0x10#8 && t.cpu.b == 0x0B#8 && t.cpu.pc == 0xC002#16) = true := by decide +kernel

theorem test_vr10_rlc_hl : ran [0xCB#8, 0x06#8] { bench.cpu with h := 0xC1#8, l := 0x00#8 } [(0xC100, 0x80#8)] 16
    (fun t => t.cpu.f == 0x10#8 && t.cpu.pc == 0xC002#16 && load 0xC100 t == 0x01#8) = true := by decide +kernel

theorem test_vr11_rrc_c : ran [0xCB#8, 0x09#8] { bench.cpu with c := 0x01#8 } [] 8
    (fun t => t.cpu.f == 0x10#8 && t.cpu.c == 0x80#8 && t.cpu.pc == 0xC002#16) = true := by decide +kernel

theorem test_vr12_rrc_hl : ran [0xCB#8, 0x0E#8] { bench.cpu with h := 0xC1#8, l := 0x00#8 } [(0xC100, 0x00#8)] 16
    (fun t => t.cpu.f == 0x80#8 && t.cpu.pc == 0xC002#16 && load 0xC100 t == 0x00#8) = true := by decide +kernel

theorem test_vr13_rl_l : ran [0xCB#8, 0x15#8] { bench.cpu with l := 0x80#8 } [] 8
    (fun t => t.cpu.f == 0x90#8 && t.cpu.l == 0x00#8 && t.cpu.pc == 0xC002#16) = true := by decide +kernel

theorem test_vr15_rl_hl : ran [0xCB#8, 0x16#8] { bench.cpu with h := 0xC1#8, l := 0x00#8 } [(0xC100, 0x11#8)] 16
    (fun t => t.cpu.pc == 0xC002#16 && load 0xC100 t == 0x22#8) = true := by decide +kernel

theorem test_vr16_rr_a : ran [0xCB#8, 0x1F#8] { bench.cpu with a := 0x01#8 } [] 8
    (fun t => t.cpu.a == 0x00#8 && t.cpu.f == 0x90#8 && t.cpu.pc == 0xC002#16) = true := by decide +kernel

theorem test_vr18_rr_hl : ran [0xCB#8, 0x1E#8]
      { bench.cpu with h := 0xC1#8, l := 0x00#8, f := 0x10#8 } [(0xC100, 0x8A#8)] 16
    (fun t => t.cpu.f == 0x00#8 && t.cpu.pc == 0xC002#16 && load 0xC100 t == 0xC5#8) = true := by decide +kernel

theorem test_vr19_sla_d : ran [0xCB#8, 0x22#8] { bench.cpu with d := 0x80#8 } [] 8
    (fun t => t.cpu.f == 0x90#8 && t.cpu.d == 0x00#8 && t.cpu.pc == 0xC002#16) = true := by decide +kernel

theorem test_vr21_sla_hl : ran [0xCB#8, 0x26#8] { bench.cpu with h := 0xC1#8, l := 0x00#8 } [(0xC100, 0xFF#8)] 16
    (fun t => t.cpu.f == 0x10#8 && t.cpu.pc == 0xC002#16 && load 0xC100 t == 0xFE#8) = true := by decide +kernel

theorem test_vr22_sra_a : ran [0xCB#8, 0x2F#8] { bench.cpu with a := 0x8A#8 } [] 8
    (fun t => t.cpu.a == 0xC5#8 && t.cpu.pc == 0xC002#16) = true := by decide +kernel

theorem test_vr24_sra_hl : ran [0xCB#8, 0x2E#8] { bench.cpu with h := 0xC1#8, l := 0x00#8 } [(0xC100, 0x81#8)] 16
    (fun t => t.cpu.f == 0x10#8 && t.cpu.pc == 0xC002#16 && load 0xC100 t == 0xC0#8) = true := by decide +kernel

theorem test_vr25_swap_a : ran [0xCB#8, 0x37#8] { bench.cpu with a := 0xF1#8, f := 0xF0#8 } [] 8
    (fun t => t.cpu.a == 0x1F#8 && t.cpu.f == 0x00#8 && t.cpu.pc == 0xC002#16) = true := by decide +kernel

theorem test_vr27_swap_hl : ran [0xCB#8, 0x36#8] { bench.cpu with h := 0xC1#8, l := 0x00#8 } [(0xC100, 0xF0#8)] 16
    (fun t => t.cpu.pc == 0xC002#16 && load 0xC100 t == 0x0F#8) = true := by decide +kernel

theorem test_vr28_srl_a : ran [0xCB#8, 0x3F#8] { bench.cpu with a := 0x01#8 } [] 8
    (fun t => t.cpu.a == 0x00#8 && t.cpu.f == 0x90#8 && t.cpu.pc == 0xC002#16) = true := by decide +kernel

theorem test_vr30_srl_hl : ran [0xCB#8, 0x3E#8] { bench.cpu with h := 0xC1#8, l := 0x00#8 } [(0xC100, 0xFF#8)] 16
    (fun t => t.cpu.f == 0x10#8 && t.cpu.pc == 0xC002#16 && load 0xC100 t == 0x7F#8) = true := by decide +kernel

theorem test_vr31_bit_7_a : ran [0xCB#8, 0x7F#8] { bench.cpu with a := 0x80#8, f := 0x10#8 } [] 8
    (fun t => t.cpu.f == 0x30#8 && t.cpu.pc == 0xC002#16) = true := by decide +kernel

theorem test_vr34_bit_0_hl : ran [0xCB#8, 0x46#8] { bench.cpu with h := 0xC1#8, l := 0x00#8 } [(0xC100, 0xFE#8)] 12
    (fun t => t.cpu.f == 0xA0#8 && t.cpu.pc == 0xC002#16) = true := by decide +kernel

theorem test_vr37_res_7_a : ran [0xCB#8, 0xBF#8] { bench.cpu with a := 0x80#8, f := 0xF0#8 } [] 8
    (fun t => t.cpu.a == 0x00#8 && t.cpu.pc == 0xC002#16) = true := by decide +kernel

theorem test_vr39_res_3_hl : ran [0xCB#8, 0x9E#8] { bench.cpu with h := 0xC1#8, l := 0x00#8 } [(0xC100, 0xFF#8)] 16
    (fun t => t.cpu.pc == 0xC002#16 && load 0xC100 t == 0xF7#8) = true := by decide +kernel

theorem test_vr40_set_3_a : ran [0xCB#8, 0xDF#8] { bench.cpu with a := 0x80#8 } [] 8
    (fun t => t.cpu.a == 0x88#8 && t.cpu.pc == 0xC002#16) = true := by decide +kernel

theorem test_vr42_set_3_hl : ran [0xCB#8, 0xDE#8] { bench.cpu with h := 0xC1#8, l := 0x00#8 } [(0xC100, 0x00#8)] 16
    (fun t => t.cpu.pc == 0xC002#16 && load 0xC100 t == 0x08#8) = true := by decide +kernel

theorem test_vc1_jp_nn : ran [0xC3#8, 0x00#8, 0x80#8] bench.cpu [] 16
    (fun t => t.cpu.pc == 0x8000#16) = true := by decide +kernel

theorem test_vc2_jr_e : ran [0x18#8, 0x05#8] bench.cpu [] 12
    (fun t => t.cpu.pc == 0xC007#16) = true := by decide +kernel

theorem test_vc6_jp_nz_nn : ran [0xC2#8, 0x00#8, 0x80#8] { bench.cpu with f := 0x00#8 } [] 16
    (fun t => t.cpu.pc == 0x8000#16) = true := by decide +kernel

theorem test_vc10_jr_nz_e : ran [0x20#8, 0xFA#8] { bench.cpu with f := 0x00#8 } [] 12
    (fun t => t.cpu.pc == 0xBFFC#16) = true := by decide +kernel

theorem test_vc17_call_nz_nn : ran [0xC4#8, 0x34#8, 0x12#8] { bench.cpu with f := 0x00#8 } [] 24
    (fun t => t.cpu.sp == 0xFFFC#16 && t.cpu.pc == 0x1234#16 && load 0xFFFD t == 0xC0#8 &&
      load 0xFFFC t == 0x03#8) = true := by decide +kernel

theorem test_vc20_ret : ran [0xC9#8] { bench.cpu with sp := 0xFFFC#16 } [(0xFFFC, 0x53#8), (0xFFFD, 0x01#8)] 16
    (fun t => t.cpu.sp == 0xFFFE#16 && t.cpu.pc == 0x0153#16) = true := by decide +kernel

theorem test_vc21_ret_z : ran [0xC8#8]
      { bench.cpu with sp := 0xFFFC#16, f := 0x80#8 } [(0xFFFC, 0x53#8), (0xFFFD, 0x01#8)] 20
    (fun t => t.cpu.sp == 0xFFFE#16 && t.cpu.pc == 0x0153#16) = true := by decide +kernel

theorem test_vc24_reti : ran [0xD9#8]
      { bench.cpu with sp := 0xFFFC#16, ime := false } [(0xFFFC, 0x53#8), (0xFFFD, 0x01#8)] 16
    (fun t => t.cpu.sp == 0xFFFE#16 && t.cpu.ime == true && t.cpu.pc == 0x0153#16) = true := by decide +kernel

theorem test_vc26_rst_00 : ran [0xC7#8] bench.cpu [] 16
    (fun t => t.cpu.sp == 0xFFFC#16 && t.cpu.pc == 0x0000#16 && load 0xFFFD t == 0xC0#8 &&
      load 0xFFFC t == 0x01#8) = true := by decide +kernel

theorem test_vs1_nop : ran [0x00#8] bench.cpu [] 4
    (fun t => t.cpu.pc == 0xC001#16) = true := by decide +kernel

theorem test_vs8_di : ran [0xF3#8] { bench.cpu with ime := true } [] 4
    (fun t => t.cpu.ime == false && t.cpu.pc == 0xC001#16) = true := by decide +kernel

theorem test_vs9_ei : ran [0xFB#8] { bench.cpu with ime := false } [] 4
    (fun t => t.cpu.ime == true && t.cpu.pc == 0xC001#16) = true := by decide +kernel

theorem test_vs11_unassigned_0xfd : ran [0xFD#8]
      { bench.cpu with a := 0x12#8, f := 0xF0#8, b := 0x34#8, c := 0x56#8, d := 0x78#8, e := 0x9A#8, h := 0xBC#8, l := 0xDE#8 }
      [] 4
    (fun t => t.cpu.pc == 0xC001#16) = true := by decide +kernel


theorem test_ld_a_de_unusable : ran [0x1A#8] { bench.cpu with d := 0xFE#8, e := 0xA0#8, a := 0x11#8 } [] 8
    (fun t => t.cpu.a == 0xFF#8) = true := by decide +kernel

theorem test_ld_de_a : ran [0x12#8] { bench.cpu with d := 0x80#8, a := 0xFF#8 } [] 8
    (fun t => load 0x8000 t == 0xFF#8) = true := by decide +kernel

/-- The P1 read value with no select line asserted (R31). -/
theorem test_ldh_a_c_p1 : ran [0xF2#8] bench.cpu [] 8 (fun t => t.cpu.a == 0xCF#8) = true := by decide +kernel

theorem test_halt : ran [0x76#8] { bench.cpu with ime := true } [] 4
    (fun t => t.cpu.halted && t.cpu.pc == 0xC001#16) = true := by decide +kernel

theorem test_stop_refused : cpuStep (placeBytes 0xC000 [0x10#8, 0x00#8] bench) = .refused .stopNotSpecified := by rfl

/-! ### Examples from the rules -/

/-- The example of R354. -/
theorem test_dispatch :
    (let t := takeInterrupt .vblank { bench with
        cpu := { bench.cpu with ime := true, pc := 0x1234#16 }, irq := { request := 0x1F#8, enable := 0x1F#8 } }
     t.cpu.ime == false && t.irq.request == 0x1E#8 && load 0xFFFD t == 0x12#8 && load 0xFFFC t == 0x34#8 &&
       t.cpu.sp == 0xFFFC#16 && t.cpu.pc == 0x0040#16 && t.charged == 20) = true := by decide +kernel

/-- R357 with `EI_DELAY = 1`: EI with IME already 1 and a request pending is followed by the dispatch, and the handler's first
instruction, a NOP at 0x0040, leaves IME 0 (log entry 19). -/
theorem test_handler_after_ei :
    (let s := placeBytes 0xC000 [0xFB#8] { bench with
        par := { bench.par with eiDelay := true }
        cpu := { bench.cpu with ime := true }, irq := { request := 0x01#8, enable := 0x01#8 } }
     match iteration s with
     | .next t => match iteration t with
       | .next u => t.cpu.pc == 0x0040#16 && !t.cpu.ime && u.cpu.pc == 0x0041#16 && !u.cpu.ime
       | _ => false
     | _ => false) = true := by decide +kernel

/-- The example of R361, at its three moments. -/
def timerBench : Timer := { divCounter := 0#16, timaAcc := 0, tima := 0xFE#8, tma := 0x80#8, tac := 0x05#8 }

theorem test_timer_16 : (timerTicks 16 (timerBench, Irq.cold)).1.tima = 0xFF#8 := by decide
theorem test_timer_32 : (timerTicks 32 (timerBench, Irq.cold)).1.tima = 0x80#8 ∧
    (timerTicks 32 (timerBench, Irq.cold)).2.request = 0x04#8 := by decide
theorem test_timer_48 : (timerTicks 48 (timerBench, Irq.cold)).1.tima = 0x81#8 := by decide

/-- The example of R412. -/
theorem test_tile_line : (List.range 8).map (tilePixel 0x3C#8 0x7E#8) = [0#2, 2#2, 3#2, 3#2, 3#2, 3#2, 2#2, 0#2] := by
  decide

/-- Sprites over a white line with LCDC bit 1 set, by R421: a left half of one 8x8 tile (row 0 is 0xF0, 0x00), entry 1 at
screen column 4 over entry 0 at column 0, on line 0; entry 1 is flipped in x and behind, over code 0. -/
theorem test_sprites :
    (let cells : List (Nat × Byte) := [(0x8010, 0xF0#8), (0xFE00, 16#8), (0xFE01, 8#8), (0xFE02, 1#8),
        (0xFE04, 16#8), (0xFE05, 12#8), (0xFE06, 1#8), (0xFE07, 0xB0#8)]
     let mem := cells.foldl (fun m x => Memory.write m x.1 x.2) []
     let p := { Ppu.skipBoot with lcdc := 0x93#8, obp0 := 0xE4#8, obp1 := 0xFC#8 }
     (p.pixelRow mem 0).take 13 == List.replicate 4 ⟨211#8, 211#8, 211#8⟩ ++ List.replicate 4 ⟨245#8, 245#8, 245#8⟩ ++
       List.replicate 4 ⟨0#8, 0#8, 0#8⟩ ++ [⟨245#8, 245#8, 245#8⟩]) = true := by
  decide +kernel

/-- The clamp of R105: page 0xFE copies from page 0xF1, in the echo of work RAM 0xD100. -/
theorem test_dma_clamp : (let t := cpuWrite 0xFF46#16 0xFE#8 (storeMem 0xD123 0x77#8 bench)
    load 0xFE23 t == 0x77#8 && t.dma.reg == 0xFE#8 && t.dma.active) = true := by decide +kernel

/-- MBC1, 4 banks: bank number 0 selects bank 1, 4 selects bank 0 (R102). -/
theorem test_mbc1_banks :
    (let m := Mbc.atReset { mbcType := .mbc1, romBanks := 4, ramBanks := 0 }
     (mbcWrite 0x2000#16 0#8 m).romBank == 1 && (mbcWrite 0x2000#16 4#8 m).romBank == 0) = true := by decide

/-- The first event of R460 after reset, a length tick, at tick 8192. -/
theorem test_sequencer_first_step :
    (Apu.tickSequencer { Apu.skipBoot with seq := { counter := 8191, step := 0 } }).seq = { counter := 0, step := 1 } := by
  decide

/-! ### Witnesses: for every statement with hypotheses, something that meets them -/

theorem test_witness_EncodeDecodeAgree : decode [0x21#8, 0x4D#8, 0x01#8, 0x00#8] = .ok (.ld_hl_nn 0x014D#16, [0x00#8]) := by
  rfl

theorem test_witness_StepRunsDecodedInstruction :
    State.reset.port.runState = .running ∧ State.reset.port.script = [] ∧ State.reset.cpu.halted = false ∧
    (let s0 : State := { State.reset with charged := 0 }
     decode [cpuRead 0x0100#16 (busTick s0), cpuRead (0x0100#16 + 1#16) (busTick (busTick s0)),
       cpuRead (0x0100#16 + 1#16 + 1#16) (busTick (busTick (busTick s0)))]).toOption = some (.nop, [0#8, 0#8]) ∧
    (setRunState .stopRequested State.reset).port.runState = .stopRequested ∧
    (let s : State := { State.reset with
       cpu := { State.reset.cpu with halted := true }
       port := { State.reset.port with script := [[.takeFrame], [.pause]] } }
     s.port.runState ≠ .stopRequested ∧ ([.takeFrame].foldl hostAction s).port.runState = .running ∧
     ([.takeFrame].foldl hostAction s).cpu.halted = true ∧ ([.pause].foldl hostAction s).port.runState ≠ .running) := by
  decide +kernel

theorem test_witness_OnlyStopStops : ∀ n, Instr.nop ≠ .stop n := by intro n h; cases h

theorem test_witness_DaaIsDecimal : (99 < 100 ∧ 0 < 100) ∧ bcd 99 = 0x99#8 ∧ bcd 0 = 0x00#8 := by decide

/-- The halted state of Halting. -/
theorem test_witness_Halting : { State.reset with cpu := { State.reset.cpu with halted := true } }.cpu.halted = true := rfl

theorem test_witness_FrameOfInstructionsThatStoreNothing :
    StoresNothing .nop ∧ exec .nop State.reset = .next (finish 4 State.reset) ∧ timeByte 0xFF03 = false ∧
    timeByte 0xFF06 = false := ⟨.nop, rfl, rfl, rfl⟩

theorem test_witness_FrameOfInstructionsThatStore_byte :
    StoresAt bench .ld_mBc_a bench.cpu.bc ∧
    exec .ld_mBc_a bench = .next (finish 8 (memWrite bench.cpu.bc bench.cpu.a bench)) ∧
    regionOf (0xC000#16).toNat ≠ .io ∧ writeReaches bench.mbc 0xC000 0xC001 = false ∧
    writeReaches bench.mbc 0xC000 0xE000 = true ∧ writeReaches bench.mbc 0xFF40 0xFF42 = false ∧
    writeReaches bench.mbc 0xFF46 0xFEA0 = false ∧ writeReaches bench.mbc 0x2000 0x3FFF = false :=
  ⟨.ldBcA, rfl, by decide, by decide, by decide, by decide, by decide, by decide⟩

theorem test_witness_FrameOfInstructionsThatStore_word :
    Pushes .push_bc ∧ exec .push_bc bench = .next (finish 16 (push16 (bench.cpu.getStack .bc) bench)) ∧
    (∃ t, exec (.ld_mNn_sp 0xC100#16) bench = .next t) ∧ writeReaches bench.mbc 0xFFFD 0xFFFB = false ∧
    writeReaches bench.mbc 0xFFFC 0xFFFB = false ∧ regionOf 0xFFFC ≠ .io ∧ regionOf 0xFFFD ≠ .io :=
  ⟨.push .bc, rfl, ⟨_, rfl⟩, by decide, by decide, by decide, by decide⟩

theorem test_witness_FrameOfRegisters :
    ¬ Destination .scf .a ∧ ¬ ChangesSp .scf ∧ ¬ ChangesPc .scf ∧ ∃ t, exec .scf State.reset = .next t := by
  refine ⟨?_, ?_, ?_, ⟨_, rfl⟩⟩
  · intro h
    generalize hi : Instr.scf = i at h
    cases h
    case ldRegReg rs => cases rs <;> cases hi
    case ldRegHl => cases hi
    case stepHl hi' _ => subst hi; simp at hi'
    case ldPairImm p _ _ => cases p <;> cases hi
    case pop p _ => cases p <;> cases hi
    case aluReg op r _ => cases op <;> cases r <;> cases hi
    case aluHl op _ => cases op <;> cases hi
    case aluImm op _ _ => cases op <;> cases hi
    case addHl p _ => cases p <;> cases hi
    case incPair p _ => cases p <;> cases hi
    case decPair p _ => cases p <;> cases hi
    case rotA hi' => subst hi; simp at hi'
    case rotReg op => cases op <;> cases hi
    case resReg b => cases b <;> cases hi
    case setReg b => cases b <;> cases hi
    all_goals cases hi
  · intro h
    generalize hi : Instr.scf = i at h
    cases h
    case push p => cases p <;> cases hi
    case pop p => cases p <;> cases hi
    case callCond cc _ => cases cc <;> cases hi
    case rst t => cases t <;> cases hi
    case retCond cc => cases cc <;> cases hi
    all_goals cases hi
  · intro h
    generalize hi : Instr.scf = i at h
    cases h
    case jpCond cc _ => cases cc <;> cases hi
    case jrCond cc _ => cases cc <;> cases hi
    case callCond cc _ => cases cc <;> cases hi
    case rst t => cases t <;> cases hi
    case retCond cc => cases cc <;> cases hi
    all_goals cases hi

theorem test_witness_FrameOfFlags :
    KeepsFlags .nop ∧ (∃ t, exec .nop State.reset = .next t) ∧ (∃ t, exec (incReg .b) State.reset = .next t) ∧
    (∃ t, exec (addHlPair .bc) State.reset = .next t) ∧ ∃ t, exec .daa State.reset = .next t :=
  ⟨.nop, ⟨_, rfl⟩, ⟨_, rfl⟩, ⟨_, rfl⟩, ⟨_, rfl⟩⟩

theorem test_witness_RegisterFile : Reg8.b ≠ .c ∧ Reg16.bc ≠ .sp := by decide

/-- The echo clause of CpuWrites, at both ends of its range. -/
theorem test_witness_CpuWrites : 0xE000 ≤ (0xE000#16).toNat ∧ (0xFDFF#16).toNat ≤ 0xFDFF := by decide

theorem test_witness_IoRegisters :
    State.reset.dma.active = false ∧ State.reset.apu.nr52 &&& 0x7F#8 = 0#8 ∧
    ([0xFF30#16, 0xFF3F#16].all fun a => decide (0xFF30 ≤ a.toNat ∧ a.toNat ≤ 0xFF3F)) = true ∧
    ([0xFF03#16, 0xFF08#16, 0xFF0E#16, 0xFF15#16, 0xFF1F#16, 0xFF27#16, 0xFF2F#16, 0xFF4C#16, 0xFF4F#16, 0xFF51#16,
      0xFF7F#16].all fun a => decide (a.toNat = 0xFF03 ∨ (0xFF08 ≤ a.toNat ∧ a.toNat ≤ 0xFF0E) ∨ a.toNat = 0xFF15 ∨
        a.toNat = 0xFF1F ∨ (0xFF27 ≤ a.toNat ∧ a.toNat ≤ 0xFF2F) ∨ (0xFF4C ≤ a.toNat ∧ a.toNat ≤ 0xFF4F) ∨
        (0xFF51 ≤ a.toNat ∧ a.toNat ≤ 0xFF7F))) = true := by decide

/-- Each clause of MemoryReadsBack at the ends of its ranges: plain cells, then the three kinds of cartridge RAM. -/
theorem test_witness_MemoryReadsBack :
    Memory.wf State.reset.mem = true ∧ Memory.wf State.reset.xram = true ∧ State.reset.dma.active = false ∧
    ([0x8000#16, 0x9FFF#16, 0xC000#16, 0xFE00#16, 0xFE9F#16, 0xFF80#16, 0xFFFF#16].all fun a =>
      !ppuBlocks a State.reset) = true ∧
    ([MbcType.mbc1, .mbc2].all fun k => [0, 1].all fun n =>
      let m := Mbc.atReset { mbcType := k, romBanks := 2, ramBanks := n }
      let s := { State.reset with mbc := { m with ramEnabled := true } }
      s.mbc.ramEnabled && !ppuBlocks 0xA000#16 s && !ppuBlocks 0xBFFF#16 s) = true := by decide

/-- The ranges of CartridgeController meet without an overlap. -/
theorem test_witness_CartridgeController :
    ([0x0000#16, 0x1FFF#16].all fun a => a.toNat ≤ 0x1FFF) = true ∧
    ([0x2000#16, 0x3FFF#16].all fun a => 0x2000 ≤ a.toNat && a.toNat ≤ 0x3FFF) = true ∧
    ([0x4000#16, 0x5FFF#16].all fun a => 0x4000 ≤ a.toNat && a.toNat ≤ 0x5FFF) = true ∧
    ([0x6000#16, 0x7FFF#16].all fun a => 0x6000 ≤ a.toNat && a.toNat ≤ 0x7FFF) = true := by decide

theorem test_witness_StepKeepsImages : (match step State.reset with | .next _ => true | _ => false) = true := by
  decide +kernel

theorem test_witness_OamDma :
    (Memory.wf State.reset.mem = true ∧ State.reset.dma.active = false) ∧ (0x9F < 0xA0 ∧ 0 < 0xA0) ∧
    (regionOf 0xFDFF ≠ .oam ∧ regionOf 0xFEA0 ≠ .oam) ∧
    (let s := { State.reset with dma := { State.reset.dma with active := true } }
     s.dma.active = true ∧ dmaExempt s.par 0xFF7F#16 = false ∧ dmaExempt s.par 0xFFFF#16 = false) := by decide

theorem test_witness_EveryCycleReachesTheTimer :
    (let s := { bench with charged := 4 }
     s.charged = 4 * (encode .nop).length ∧ (∃ t, exec .nop s = .next t) ∧ StoresNothing .nop ∧
     s.charged = 4 * (encode .ld_mBc_a).length ∧ (∃ t, exec .ld_mBc_a s = .next t) ∧ StoresAt s .ld_mBc_a s.cpu.bc ∧
     s.cpu.bc ≠ 0xFF04#16) :=
  ⟨rfl, ⟨_, rfl⟩, .nop, rfl, ⟨_, rfl⟩, .ldBcA, by decide⟩

/-- The clause on a byte stored to DIV. -/
theorem test_witness_EveryCycleReachesTheTimer_div :
    (let s := { bench with charged := 8 }
     s.charged = 4 * (encode (.ldh_mN_a 0x04#8)).length ∧ (∃ t, exec (.ldh_mN_a 0x04#8) s = .next t) ∧
     StoresAt s (.ldh_mN_a 0x04#8) 0xFF04#16 ∧ dmaBlocks 0xFF04#16 s = false) :=
  ⟨rfl, ⟨_, rfl⟩, .ldhNA _, rfl⟩

/-- The clauses on a word: a push to 0xFFFD and 0xFFFC, which are none of the six registers, and LD (nn),SP to 0xFF02 and
0xFF03, just below DIV. -/
theorem test_witness_EveryCycleReachesTheTimer_word :
    (let s := { bench with charged := 4 }
     s.charged = 4 * (encode .push_bc).length ∧ (∃ t, exec .push_bc s = .next t) ∧ Pushes .push_bc ∧
     s.cpu.sp - 1#16 = 0xFFFD#16 ∧ s.cpu.sp - 2#16 = 0xFFFC#16) ∧
    (let s := { bench with charged := 12 }
     s.charged = 4 * (encode (.ld_mNn_sp 0xFF02#16)).length ∧ (∃ t, exec (.ld_mNn_sp 0xFF02#16) s = .next t) ∧
     0xFF02#16 + 1#16 ≠ 0xFF04#16) :=
  ⟨⟨rfl, ⟨_, rfl⟩, .push .bc, rfl, rfl⟩, rfl, ⟨_, rfl⟩, by decide⟩

theorem test_witness_TimerAdvances : Timer.skipBoot.tac.getLsbD 2 = false ∧ timerBench.tac.getLsbD 2 = true := by decide

theorem test_witness_InterruptSources :
    firstPending 0x00#8 = none ∧ firstPending 0x18#8 = some .serial ∧ Source.num .timer < Source.num .serial := by decide

/-- The three clauses of InterruptDispatch: nothing pending; pending with IME clear; pending with IME set. -/
theorem test_witness_InterruptDispatch :
    State.reset.irq.enable &&& State.reset.irq.request &&& 0x1F#8 = 0#8 ∧
    (let s := { State.reset with irq := { request := 0x10#8, enable := 0xFF#8 } }
     s.irq.enable &&& s.irq.request &&& 0x1F#8 ≠ 0#8 ∧ s.cpu.ime = false ∧
     { s with cpu := { s.cpu with ime := true } }.cpu.ime = true) := by decide

theorem test_witness_EntryCallAndReturn :
    Memory.wf State.reset.mem = true ∧ State.reset.dma.active = false ∧
    ([0xC002#16, 0xE000#16].all fun a => 0xC002 ≤ a.toNat && a.toNat ≤ 0xE000) = true := by decide

/-- The handler clauses of EntryCallAndReturn: a state about to be interrupted, and an iteration that executes EI. -/
theorem test_witness_EntryCallAndReturn_handler :
    CpuOk bench.par { bench.cpu with ime := true } ∧
    (let s := placeBytes 0xC000 [0xFB#8] bench
     s.cpu.ime = false ∧ s.cpu.eiPending = false ∧
     (match iteration s with | .next t => t.cpu.ime | _ => false) = true) :=
  ⟨⟨by decide, by decide, by decide⟩, by decide +kernel⟩

/-- The clauses of PpuTick: LCD off; within a line; at the end of the lines 0, 142, 143, 153. -/
theorem test_witness_PpuTick :
    Ppu.cold.lcdc.getLsbD 7 = false ∧ Ppu.skipBoot.lcdc.getLsbD 7 = true ∧ 2 ≤ Ppu.skipBoot.budget ∧
    ([0x00#8, 0x8E#8, 0x8F#8, 0x99#8].all fun ly =>
      let p := { Ppu.skipBoot with budget := 1, ly := ly }
      p.budget == 1 && p.ly.toNat ≤ 153 && p.lcdc.getLsbD 7) = true := by decide

theorem ppuOk_skipBoot : PpuOk Ppu.skipBoot where
  line := by decide
  budgetLow := by decide
  budgetHigh := by decide
  rows := by decide +kernel
  width := by decide +kernel
  codeRows := by decide +kernel
  codeWidth := by decide +kernel

theorem test_witness_LinesAndFramesTakeTheirTime :
    PpuOk Ppu.skipBoot ∧ Ppu.skipBoot.lcdc.getLsbD 7 = true ∧ 455 < Ppu.skipBoot.budget :=
  ⟨ppuOk_skipBoot, by decide, by decide⟩

/-- Both ends of each range of PixelsAndLines. -/
theorem test_witness_PixelsAndLines :
    PpuOk Ppu.skipBoot ∧ (0 < 144 ∧ 143 < 144) ∧ (0 < 160 ∧ 159 < 160) ∧ (7 ≤ 7 ∧ 0 ≤ 7) ∧
    (0x7F#8).toNat < 0x80 ∧ 0x80 ≤ (0x80#8).toNat :=
  ⟨ppuOk_skipBoot, by decide, by decide, by decide, by decide, by decide⟩

theorem test_witness_FrequencyTimers :
    (1 < { Pulse.cold with timer := 2 }.timer) ∧ (1 < { Wave.cold with timer := 2 }.timer) ∧
    (1 < { Noise.cold with timer := 2 }.timer) ∧ (0 < 15 ∧ 14 < 15) := by decide

theorem test_witness_SequencerAndItsTicks : Apu.skipBoot.seq.counter < 8192 ∧ 8191 < 8192 - Apu.skipBoot.seq.counter := by
  decide

theorem test_witness_SoundRegisterWrites : State.reset.dma.active = false := rfl

theorem test_witness_LengthCounterTurnsOff :
    (let c : Pulse := { Pulse.cold with nr4 := 0x40#8, on := true }; c.nr4.getLsbD 6 = true ∧ c.on = true) ∧
    (let c : Noise := { Noise.cold with nr44 := 0x40#8, on := true }; c.nr44.getLsbD 6 = true ∧ c.on = true) ∧
    (let c : Wave := { Wave.cold with nr34 := 0x40#8, on := true }; c.nr34.getLsbD 6 = true ∧ c.on = true) ∧
    (0 < 64 ∧ 63 < 64) ∧ (0 < 256 ∧ 255 < 256) := by decide

theorem apuOk_skipBoot : ApuOk Params.default Apu.skipBoot where
  pulse1 := ⟨by decide, by decide, by decide, by decide⟩
  pulse2 := ⟨by decide, by decide, by decide, by decide⟩
  sweep := ⟨by decide, by decide⟩
  wave := ⟨by decide, by decide⟩
  noise := ⟨by decide, by decide, by decide⟩
  nr52 := by decide
  counter := by decide
  step := by decide
  acc := by decide
  buf := by decide

theorem test_witness_MixerAndSampler :
    ApuOk Params.default Apu.skipBoot ∧ Apu.skipBoot.nr52.getLsbD 7 = true ∧ Apu.cold.nr52.getLsbD 7 = false :=
  ⟨apuOk_skipBoot, by decide, by decide⟩

theorem test_witness_JoypadAndHostActions :
    State.reset.port.runState ≠ .stopRequested ∧
    { State.reset with ppu := { Ppu.skipBoot with frameReady := true } }.ppu.frameReady = true ∧
    (setRunState .stopRequested State.reset).port.runState = .stopRequested ∧
    (setRunState .paused State.reset).port.runState = .paused ∧
    (setRunState .paused State.reset).port.script = [] := by decide

theorem test_witness_Resets :
    (∃ s, construct Params.default Cart.blank none true [] = .ok s) ∧
    (∃ s, construct Params.default Cart.blank (some []) false [] = .ok s) ∧ (0xFF00 ≤ 0xFF7F ∧ 0xFF7F ≤ 0xFF7F) :=
  ⟨⟨_, rfl⟩, ⟨_, rfl⟩, by decide⟩

theorem test_witness_HeaderParsing :
    (∃ hd, parseHeader Cart.blank = .ok hd) ∧ (∃ e, parseHeader { len := 0x14F, bytes := [] } = .error e) :=
  ⟨⟨_, rfl⟩, ⟨_, rfl⟩⟩

theorem test_witness_ConstructedMachinesMeetInvariant :
    Params.default.wellFormed = true ∧ ∃ s, construct Params.default Cart.blank (some []) false [] = .ok s :=
  ⟨by decide, ⟨_, rfl⟩⟩

/-- A legal state from which a step goes on: the witness of StepKeepsInvariant and RowZeroIsNeverDrawn. -/
theorem test_witness_StepKeepsInvariant : ∃ s, Inv s ∧ (match step s with | .next _ => true | _ => false) = true :=
  ⟨bench,
   { legal := {
       par := by decide
       cpu := ⟨by decide, by decide, by decide⟩
       irq := ⟨by decide⟩
       timer := ⟨by decide, by decide⟩
       dma := ⟨by decide⟩
       ppu := ppuOk_skipBoot
       apu := apuOk_skipBoot
       mbc := ⟨by decide, by decide, by decide, by decide, by decide⟩
       p1 := by decide
       mem := by decide
       xram := by decide }
     charged := by decide },
   by decide +kernel⟩

end Sys2Proof.Tests
end

section
/-! PROOFS. The family of spec/10_state.md: no step changes what the machine was given at construction (R29, R7), the
register file (R20), HALT and the halted CPU (R25, R331, R372), and the two resets (R70 to R72, R500). -/

namespace Sys2Proof.Machine

/-! ### What construction fixes: cartridge image, boot ROM, parameters, header results (R7, R29, R30) -/

/-- Cartridge image, boot ROM, parameters, header results. -/
abbrev FixedParts := Cart × Memory × Params × Header

/-- What construction gives the machine and no step may change (R7, R29, R30). -/
def State.fixedParts (s : State) : FixedParts := (s.cart, s.bootRom, s.par, s.mbc.header)

theorem fixedParts_eq_iff (s t : State) : t.fixedParts = s.fixedParts ↔
    t.cart = s.cart ∧ t.bootRom = s.bootRom ∧ t.par = s.par ∧ t.mbc.header = s.mbc.header := by
  simp [State.fixedParts]

/-! The operations of the machine, in the order of the model. -/

@[simp] theorem fixedParts_withCpu (f : Cpu → Cpu) (s : State) : (withCpu f s).fixedParts = s.fixedParts := rfl

@[simp] theorem fixedParts_finish (c : Nat) (s : State) : (finish c s).fixedParts = s.fixedParts := rfl

@[simp] theorem fixedParts_cpuWrite (a : Word) (v : Byte) (s : State) : (cpuWrite a v s).fixedParts = s.fixedParts :=
  have h := cpuWrite_keeps a v s
  (fixedParts_eq_iff _ _).2 ⟨h.cart, h.bootRom, h.par, h.header⟩

@[simp] theorem fixedParts_memWrite (a : Word) (v : Byte) (s : State) : (memWrite a v s).fixedParts = s.fixedParts :=
  fixedParts_cpuWrite a v (busTick s)

@[simp] theorem fixedParts_pushByte (v : Byte) (s : State) : (pushByte v s).fixedParts = s.fixedParts :=
  fixedParts_memWrite _ v (setSp (s.cpu.sp - 1#16) s)

@[simp] theorem fixedParts_push16 (v : Word) (s : State) : (push16 v s).fixedParts = s.fixedParts :=
  (fixedParts_pushByte ..).trans (fixedParts_pushByte ..)

@[simp] theorem fixedParts_callTo (a : Word) (s : State) : (callTo a s).fixedParts = s.fixedParts :=
  fixedParts_push16 s.cpu.pc s

@[simp] theorem fixedParts_storeSp (nn : Word) (s : State) : (storeSp nn s).fixedParts = s.fixedParts :=
  (fixedParts_memWrite ..).trans (fixedParts_memWrite ..)

@[simp] theorem fixedParts_popByte (s : State) : (popByte s).2.fixedParts = s.fixedParts :=
  (fixedParts_withCpu _ (busTick s)).trans rfl

@[simp] theorem fixedParts_pop16 (s : State) : (pop16 s).2.fixedParts = s.fixedParts :=
  (fixedParts_popByte (popByte s).2).trans (fixedParts_popByte s)

@[simp] theorem fixedParts_popPc (s : State) : (popPc s).fixedParts = s.fixedParts :=
  (fixedParts_withCpu _ (pop16 s).2).trans (fixedParts_pop16 s)

@[simp] theorem fixedParts_returnFromInterrupt (s : State) : (returnFromInterrupt s).fixedParts = s.fixedParts :=
  (fixedParts_withCpu _ (popPc s)).trans (fixedParts_popPc s)

@[simp] theorem fixedParts_haltEffect (s : State) : (haltEffect s).fixedParts = s.fixedParts := by
  unfold haltEffect; split <;> rfl

@[simp] theorem fixedParts_enableInterrupts (s : State) : (enableInterrupts s).fixedParts = s.fixedParts := by
  unfold enableInterrupts; split
  · rfl
  · split <;> rfl

@[simp] theorem fixedParts_takeInterrupt (n : Source) (s : State) : (takeInterrupt n s).fixedParts = s.fixedParts :=
  fixedParts_push16 s.cpu.pc { s with cpu := { s.cpu with ime := false }, irq := s.irq.acknowledge n, charged := 0 }

@[simp] theorem fixedParts_fetchInstr (s : State) : (fetchInstr s).2.fixedParts = s.fixedParts := by
  unfold fetchInstr; dsimp only; split <;> rfl

@[simp] theorem fixedParts_applyArmed (armed : Bool) (i : Instr) (s : State) :
    (applyArmed armed i s).fixedParts = s.fixedParts := by
  unfold applyArmed; split <;> rfl

@[simp] theorem fixedParts_dmaAdvance (c : Nat) (s : State) : (dmaAdvance c s).fixedParts = s.fixedParts := by
  unfold dmaAdvance; split <;> rfl

@[simp] theorem fixedParts_feedPeers (s : State) : (feedPeers s).fixedParts = s.fixedParts :=
  fixedParts_dmaAdvance s.charged (apuAdvance s.charged (ppuAdvance s.charged s))

@[simp] theorem fixedParts_serviceInterrupts (s : State) : (serviceInterrupts s).fixedParts = s.fixedParts := by
  unfold serviceInterrupts; split
  · rfl
  · split
    · exact (fixedParts_feedPeers _).trans (fixedParts_takeInterrupt _ (wake s))
    · rfl

@[simp] theorem fixedParts_afterStep (s : State) : (afterStep s).fixedParts = s.fixedParts :=
  (fixedParts_serviceInterrupts _).trans (fixedParts_feedPeers s)

@[simp] theorem fixedParts_setJoypad (j : Byte) (s : State) : (setJoypad j s).fixedParts = s.fixedParts := by
  unfold setJoypad; dsimp only; split <;> rfl

@[simp] theorem fixedParts_hostAction (s : State) (act : HostAction) :
    (hostAction s act).fixedParts = s.fixedParts := by
  unfold hostAction; split
  · rfl
  · cases act with
    | setJoypad j => exact fixedParts_setJoypad j s
    | pause => dsimp only; split <;> rfl
    | resume => dsimp only; split <;> rfl
    | _ => rfl

theorem fixedParts_hostActions (acts : List HostAction) (s : State) :
    (acts.foldl hostAction s).fixedParts = s.fixedParts := by
  induction acts generalizing s with
  | nil => rfl
  | cons act acts ih => exact (ih _).trans (fixedParts_hostAction s act)

@[simp] theorem fixedParts_hostTurn (s : State) : (hostTurn s).fixedParts = s.fixedParts := by
  unfold hostTurn; split
  · rfl
  · exact fixedParts_hostActions ..

/-! ### The outcomes of the meanings and of a step -/

/-- A next state, if the outcome is one, has the parts `p`. -/
def NextHasParts (p : FixedParts) (x : Result) : Prop := ∀ t, x = .next t → t.fixedParts = p

theorem nextHasParts_next {p : FixedParts} {s : State} (h : s.fixedParts = p) :
    NextHasParts p (.next s) := by
  intro t ht; cases ht; exact h

theorem nextHasParts_complete {p : FixedParts} {c : Nat} {s : State} (h : s.fixedParts = p) :
    NextHasParts p (complete c s) :=
  nextHasParts_next h

theorem nextHasParts_whenCond {cc : Cond} {c c' : Nat} {f : State → State} {s : State}
    (h : (f s).fixedParts = s.fixedParts) : NextHasParts s.fixedParts (whenCond cc c c' f s) := by
  unfold whenCond; split
  · exact nextHasParts_complete h
  · exact nextHasParts_complete rfl

theorem nextHasParts_mapNext {p : FixedParts} {f : State → State} {x : Result}
    (h : NextHasParts p x) (hf : ∀ s, (f s).fixedParts = s.fixedParts) : NextHasParts p (mapNext f x) := by
  cases x with
  | next s => exact nextHasParts_next ((hf s).trans (h s rfl))
  | fault _ => intro t ht; cases ht
  | refused _ => intro t ht; cases ht

theorem nextHasParts_storeA (c : Nat) (a : Word) (s : State) : NextHasParts s.fixedParts (storeA c a s) :=
  nextHasParts_complete (fixedParts_memWrite ..)

theorem nextHasParts_storeAStep (d : Word) (s : State) : NextHasParts s.fixedParts (storeAStep d s) :=
  nextHasParts_complete ((fixedParts_withCpu _ (memWrite s.cpu.hl s.cpu.a s)).trans (fixedParts_memWrite ..))

theorem nextHasParts_changeMem (f : Byte → Byte) (s : State) : NextHasParts s.fixedParts (changeMem f s) :=
  nextHasParts_complete (fixedParts_memWrite _ _ (busTick s))

theorem nextHasParts_stepMem (f : Byte → Byte → Byte × Byte) (s : State) :
    NextHasParts s.fixedParts (stepMem f s) :=
  nextHasParts_complete ((fixedParts_withCpu _ (memWrite ..)).trans (fixedParts_memWrite _ _ (busTick s)))

theorem nextHasParts_rotMem (op : RotOp) (s : State) : NextHasParts s.fixedParts (rotMem op s) :=
  nextHasParts_complete ((fixedParts_withCpu _ (memWrite ..)).trans (fixedParts_memWrite _ _ (busTick s)))

/-- No instruction changes what construction fixed: by its form it changes CPU registers alone, or it stores through the
bus, or it refuses. -/
theorem exec_keeps_fixedParts (i : Instr) (s : State) : NextHasParts s.fixedParts (exec i s) := by
  cases form_of i
  case stop => intro t ht; cases ht
  case ldHlReg => rw [exec_ldHlReg]; exact nextHasParts_complete (fixedParts_memWrite ..)
  case pushPair => rw [exec_pushPair]; exact nextHasParts_complete (fixedParts_push16 ..)
  case rotHl => rw [exec_rotHl]; exact nextHasParts_rotMem _ s
  case resHl => rw [exec_resHl]; exact nextHasParts_changeMem _ s
  case setHl => rw [exec_setHl]; exact nextHasParts_changeMem _ s
  case rstTo => rw [exec_rstTo]; exact nextHasParts_complete (fixedParts_callTo ..)
  case call_nn => exact nextHasParts_complete (fixedParts_callTo ..)
  case ld_mNn_sp => exact nextHasParts_complete (fixedParts_storeSp ..)
  case ld_mHl_n => exact nextHasParts_complete (fixedParts_memWrite ..)
  case inc_mHl | dec_mHl => exact nextHasParts_stepMem _ s
  case ld_mHli_a | ld_mHld_a => exact nextHasParts_storeAStep _ s
  case ld_mBc_a | ld_mDe_a | ldh_mN_a | ldh_mC_a | ld_mNn_a => exact nextHasParts_storeA _ _ s
  case popPair => rw [exec_popPair]; exact nextHasParts_complete ((fixedParts_withCpu _ _).trans (fixedParts_pop16 s))
  case ret => exact nextHasParts_complete (fixedParts_popPc s)
  case reti => exact nextHasParts_complete (fixedParts_returnFromInterrupt s)
  case jpCond => rw [exec_jpCond]; exact nextHasParts_whenCond rfl
  case jrCond => rw [exec_jrCond]; exact nextHasParts_whenCond rfl
  case callCond => rw [exec_callCond]; exact nextHasParts_whenCond (fixedParts_callTo ..)
  case retCond => rw [exec_retCond]; exact nextHasParts_whenCond (fixedParts_popPc s)
  case halt => exact nextHasParts_complete (fixedParts_haltEffect s)
  case ei => exact nextHasParts_complete (fixedParts_enableInterrupts s)
  case ldRegReg | ldRegImm | ldRegHl | ldPairImm | aluReg | aluHl | aluImm | incReg | decReg | addHlPair |
      incPair | decPair | rotReg | bitReg | bitHl | resReg | setReg =>
    simp only [exec_ldRegReg, exec_ldRegImm, exec_ldRegHl, exec_ldPairImm, exec_aluReg, exec_aluHl,
      exec_aluImm, exec_incReg, exec_decReg, exec_addHlPair, exec_incPair, exec_decPair, exec_rotReg, exec_bitReg,
      exec_bitHl, exec_resReg, exec_setReg]
    exact nextHasParts_complete rfl
  all_goals exact nextHasParts_complete rfl

theorem cpuStep_keeps_fixedParts (s : State) : NextHasParts s.fixedParts (cpuStep s) := by
  unfold cpuStep; dsimp only; split
  · exact nextHasParts_next rfl
  · refine nextHasParts_mapNext ?_ (fixedParts_applyArmed _ _)
    have hfetch := fixedParts_fetchInstr { s with charged := 0 }
    exact fun t ht => (exec_keeps_fixedParts _ _ t ht).trans hfetch

theorem step_keeps_fixedParts (s : State) : NextHasParts s.fixedParts (step s) := by
  unfold step loopPass; dsimp only; split
  · exact nextHasParts_next rfl
  · rw [← fixedParts_hostTurn s]
    split
    · exact nextHasParts_mapNext (cpuStep_keeps_fixedParts _) fixedParts_afterStep
    · exact nextHasParts_next rfl
    · exact nextHasParts_next rfl

/-- Settles O36: every operation a step is made of keeps the fixed parts. -/
theorem stepKeepsImages : Obligations.StepKeepsImages :=
  fun s t h => (fixedParts_eq_iff s t).1 (step_keeps_fixedParts s t h)

/-! ### HALT and the halted CPU (R25, R331, R372) -/

/-- HALT decides between `Halted` and the HALT-bug latch (R331); an armed EI counts as IME (R334). -/
theorem haltEffect_eq (s : State) : haltEffect s = { s with cpu :=
    if s.cpu.ime ∨ (s.par.eiDelay ∧ s.cpu.eiPending) ∨ s.irq.enable &&& s.irq.request &&& 0x1F#8 = 0#8 then
      { s.cpu with halted := true }
    else { s.cpu with haltBug := true } } := by
  simp only [haltEffect, Bool.or_eq_true, Bool.and_eq_true, decide_eq_true_eq, or_assoc]
  unfold Irq.pending
  split <;> rfl

/-- A halted CPU idles for four cycles (R372). -/
theorem cpuStep_of_halted (s : State) (h : s.cpu.halted = true) :
    cpuStep s = .next { timerAdvance 4 s with charged := 4 } := by
  unfold cpuStep; exact if_pos h

/-- Settles O25. -/
theorem halting : Obligations.Halting :=
  ⟨⟨rfl, fun s => congrArg (fun t => Host.Outcome.next (finish 4 t)) (haltEffect_eq s)⟩, cpuStep_of_halted⟩

/-! ### The register file (R20) -/

@[simp] theorem get8_set8_same (r : Reg8) (v : Byte) (u : Cpu) : (u.set8 r v).get8 r = v := by
  cases r <;> rfl

theorem get8_set8_other (q r : Reg8) (v : Byte) (u : Cpu) (h : q ≠ r) : (u.set8 r v).get8 q = u.get8 q := by
  cases r <;> cases q
  case a.a | b.b | c.c | d.d | e.e | h.h | l.l => exact absurd rfl h
  all_goals rfl

/-- A write of an 8-bit register leaves F, SP and PC alone. -/
theorem set8_keeps (r : Reg8) (v : Byte) (u : Cpu) :
    (u.set8 r v).f = u.f ∧ (u.set8 r v).sp = u.sp ∧ (u.set8 r v).pc = u.pc := by
  cases r <;> exact ⟨rfl, rfl, rfl⟩

@[simp] theorem get16_set16_same (p : Reg16) (v : Word) (u : Cpu) : (u.set16 p v).get16 p = v := by
  cases p with
  | sp => rfl
  | _ => exact cat_halves v

theorem get16_set16_other (q p : Reg16) (v : Word) (u : Cpu) (h : q ≠ p) : (u.set16 p v).get16 q = u.get16 q := by
  cases p <;> cases q
  case bc.bc | de.de | hl.hl | sp.sp => exact absurd rfl h
  all_goals rfl

/-- A write of a pair or of SP leaves A, F and PC alone. -/
theorem set16_keeps (p : Reg16) (v : Word) (u : Cpu) :
    (u.set16 p v).a = u.a ∧ (u.set16 p v).f = u.f ∧ (u.set16 p v).pc = u.pc := by
  cases p <;> exact ⟨rfl, rfl, rfl⟩

/-- Settles O30: the reads of a register after the writes, and the pairs by definition. -/
theorem registerFile : Obligations.RegisterFile :=
  ⟨fun _ => ⟨rfl, rfl, rfl, rfl⟩,
   fun r v u => ⟨get8_set8_same r v u, fun q h => get8_set8_other q r v u h⟩,
   set8_keeps,
   fun p v u => ⟨get16_set16_same p v u, fun q h => get16_set16_other q p v u h⟩,
   set16_keeps,
   fun _ _ _ => ⟨rfl, rfl, rfl⟩⟩

/-! ### The two resets (R70 to R72, R500) -/

/-- A machine constructed with `SKIP_BOOT` is the skip-boot state of its header (R500). -/
theorem construct_skipBoot {par : Params} {cart : Cart} {rom : Option Memory} {script : List (List HostAction)}
    {s : State} (h : construct par cart rom true script = .ok s) :
    ∃ hd, parseHeader cart = .ok hd ∧ s = State.skipBootWith par cart (rom.getD []) hd script := by
  unfold construct at h
  cases hp : parseHeader cart with
  | error e => rw [hp] at h; cases h
  | ok hd => rw [hp] at h; cases h; exact ⟨hd, rfl, rfl⟩

/-- A machine constructed without it is the cold state of its header (R500). -/
theorem construct_cold {par : Params} {cart : Cart} {rom : Memory} {script : List (List HostAction)}
    {s : State} (h : construct par cart (some rom) false script = .ok s) :
    ∃ hd, parseHeader cart = .ok hd ∧ s = State.coldWith par cart rom hd script := by
  unfold construct at h
  cases hp : parseHeader cart with
  | error e => rw [hp] at h; cases h
  | ok hd => rw [hp] at h; cases h; exact ⟨hd, rfl, rfl⟩

/-- A property of all I/O addresses is one of 128 offsets. -/
theorem forall_ioAddress {P : Nat → Prop} (h : ∀ off < 0x80, P (0xFF00 + off)) (a : Nat) (hlo : 0xFF00 ≤ a)
    (hhi : a ≤ 0xFF7F) : P a := by
  obtain ⟨off, rfl⟩ := Nat.exists_eq_add_of_le hlo
  exact h off (by omega)

theorem load_ioOffset (off : Nat) (h : off < 0x80) (s : State) :
    load (0xFF00 + off) s = ioStored (ioRegAt off) (0xFF00 + off) s := by
  have hr : regionOf (0xFF00 + off) = .io := (regionOf_range _).1.2 (by omega)
  rw [load, hr, ioRegOf, Nat.add_sub_cancel_left]

/-- The I/O registers after a skip-boot reset do not depend on what the machine was given. -/
theorem ioStored_skipBootWith (r : IoReg) (a : Nat) (par : Params) (cart : Cart) (rom : Memory) (hd : Header)
    (script : List (List HostAction)) :
    ioStored r a (State.skipBootWith par cart rom hd script) = ioStored r a State.reset := by
  cases r <;> rfl

theorem ioStored_coldWith (r : IoReg) (a : Nat) (par : Params) (cart : Cart) (rom : Memory) (hd : Header)
    (script : List (List HostAction)) : ioStored r a (State.coldWith par cart rom hd script) = 0#8 := by
  cases r
  case div => exact show hiByte 0x0000#16 = 0#8 by decide
  all_goals rfl

/-- Settles O55: a constructed machine is in one of the two reset states, whose fields are the values of the rules; its
I/O registers are those of `State.reset`, at 128 addresses, or all 0. -/
theorem resets : Obligations.Resets := by
  unfold Obligations.Resets
  intro both
  have hboth : ∀ (par : Params) (cart : Cart) (rom : Memory) (hd : Header) (script : List (List HostAction))
      (s : State), parseHeader cart = .ok hd →
      s = State.skipBootWith par cart rom hd script ∨ s = State.coldWith par cart rom hd script →
      both par cart script s := by
    rintro par cart rom hd script s hhd (rfl | rfl)
    all_goals exact
      ⟨⟨fun _ => rfl, fun _ => rfl, rfl, rfl, rfl, rfl, rfl, rfl, rfl, rfl, hhd, rfl, rfl, rfl⟩,
       ⟨rfl, rfl, rfl, rfl, rfl, rfl, rfl⟩,
       ⟨by simp [State.skipBootWith, State.coldWith, Apu.skipBoot, Apu.cold, Pulse.cold], ⟨rfl, rfl, rfl, rfl⟩,
        ⟨rfl, rfl, rfl, rfl, rfl, rfl⟩, ⟨rfl, rfl, rfl⟩, rfl, rfl⟩,
       rfl, rfl⟩
  refine ⟨fun par cart rom script s h => ?_, fun par cart rom script s h => ?_⟩
  · obtain ⟨hd, hhd, rfl⟩ := construct_skipBoot h
    have hbc : cat 0x00#8 0x13#8 = 0x0013#16 := by decide
    have hde : cat 0x00#8 0xD8#8 = 0x00D8#16 := by decide
    have hhl : cat 0x01#8 0x4D#8 = 0x014D#16 := by decide
    refine ⟨cat_halves par.afReset, hbc, hde, hhl, rfl, rfl, rfl, forall_ioAddress fun off hoff => ?_, rfl, rfl,
      hboth _ _ _ _ _ _ hhd (.inl rfl)⟩
    rw [load_ioOffset off hoff, ioStored_skipBootWith]
    revert off
    decide
  · obtain ⟨hd, hhd, rfl⟩ := construct_cold h
    have hz : cat 0x00#8 0x00#8 = 0x0000#16 := by decide
    refine ⟨rfl, hz, hz, hz, hz, rfl, rfl, rfl, forall_ioAddress fun off hoff => ?_, rfl, rfl,
      hboth _ _ _ _ _ _ hhd (.inr rfl)⟩
    rw [load_ioOffset off hoff, ioStored_coldWith]

end Sys2Proof.Machine
end

section
/-! PROOFS. The family of spec/20_memory.md: the cartridge controller (R101 to R104), the header (R100, R500), OAM DMA
(R105 to R107), and the CPU's accesses to the bus (R84 to R86, R95). -/

namespace Sys2Proof.Machine

/-! ### The cartridge controller (R101 to R104) -/

/-- The RAM enable code is read from the low nibble of the byte (R101). -/
theorem lowNibble_beq_0A (v : Byte) : (v &&& 0x0F#8 == 0x0A#8) = decide (v.toNat % 16 = 0x0A) := by
  have h : (v &&& 0x0F#8).toNat = v.toNat % 16 := by
    rw [BitVec.toNat_and]; exact Nat.and_two_pow_sub_one_eq_mod v.toNat 4
  rw [beq_eq_decide, ← h]
  exact decide_eq_decide.2 BitVec.toNat_inj.symm

/-- Bit 8 of an address is the parity of its page (R101, R102). -/
theorem getLsbD_eight (a : Word) : a.getLsbD 8 = decide (a.toNat / 0x100 % 2 = 1) :=
  Nat.testBit_eq_decide_div_mod_eq

/-- Bit 0 of a byte is its parity (R104). -/
theorem bit_zero (v : Byte) : bit v 0 = decide (v.toNat % 2 = 1) :=
  Nat.testBit_zero v.toNat

/-- Settles O35, by the four address ranges and, in each, the controller's type. -/
theorem cartridgeController : Obligations.CartridgeController := by
  intro a v m
  dsimp only
  refine ⟨fun h => ?_, fun hlo hhi => ?_, fun hlo hhi => ?_, fun hlo hhi => ?_⟩
  · rw [mbcWrite, if_pos (by omega), toggleRam, lowNibble_beq_0A, getLsbD_eight]
    cases m.header.mbcType with
    | mbc2 => simp only [decide_eq_true_eq, ← Nat.mod_two_ne_one, ite_not]
    | _ => rfl
  · rw [mbcWrite, if_neg (by omega), if_pos (by omega), changeRomBank, getLsbD_eight]
    cases m.header.mbcType with
    | mbc2 => simp only [decide_eq_true_eq]; rfl
    | _ => rfl
  · rw [mbcWrite, if_neg (by omega), if_neg (by omega), if_pos (by omega), changeRamBank]
    cases m.header.mbcType with
    | mbc1 => cases m.bankMode <;> rfl
    | _ => rfl
  · rw [mbcWrite, if_neg (by omega), if_neg (by omega), if_neg (by omega), changeMode, bit_zero]
    cases m.header.mbcType with
    | mbc1 => simp only [decide_eq_true_eq]; rfl
    | _ => rfl

/-! ### The header (R100, R500) -/

/-- The type codes (R100). -/
theorem typeOfCode_eq_some_iff (t : Byte) (k : MbcType) : typeOfCode t = some k ↔
    (k = .romOnly ∧ t.toNat = 0x00) ∨ (k = .mbc1 ∧ 0x01 ≤ t.toNat ∧ t.toNat ≤ 0x03) ∨
    (k = .mbc2 ∧ 0x05 ≤ t.toNat ∧ t.toNat ≤ 0x06) ∨
    (k = .mbc35 ∧ ((0x0F ≤ t.toNat ∧ t.toNat ≤ 0x13) ∨ (0x19 ≤ t.toNat ∧ t.toNat ≤ 0x1E))) := by
  unfold typeOfCode
  split
  case h_18 =>
    refine iff_of_false nofun ?_
    rintro (⟨-, h⟩ | ⟨-, h⟩ | ⟨-, h⟩ | ⟨-, h⟩)
    all_goals simp only [imp_false] at *; omega
  all_goals rename_i h; rw [h]; cases k <;> decide

/-- The ROM size codes (R100). -/
theorem romBanksOfCode_eq_some_iff (c : Byte) (n : Nat) :
    romBanksOfCode c = some n ↔ c.toNat ≤ 6 ∧ n = 2 * 2 ^ c.toNat := by
  rw [romBanksOfCode, Option.ite_none_right_eq_some, Option.some_inj, Nat.shiftLeft_eq, eq_comm (a := n)]

/-- The RAM size codes (R100). -/
theorem ramBanksOfCode_eq_some_iff (c : Byte) (n : Nat) :
    ramBanksOfCode c = some n ↔ c.toNat ≤ 5 ∧ n = [0, 1, 1, 4, 16, 8].getD c.toNat 0 := by
  unfold ramBanksOfCode
  split
  case h_7 =>
    have h : ¬ c.toNat ≤ 5 := by simp only [imp_false] at *; omega
    simp [h]
  all_goals rename_i h; simp [h, eq_comm]

/-- An MBC2 ignores the RAM size code (R100, log entry 20). -/
theorem ramBanksOf_eq_some_iff (k : MbcType) (c : Byte) (n : Nat) : ramBanksOf k c = some n ↔
    (c.toNat ≤ 5 ∨ k = .mbc2) ∧ n = if k = .mbc2 then 0 else [0, 1, 1, 4, 16, 8].getD c.toNat 0 := by
  cases k with
  | mbc2 => simp [ramBanksOf, eq_comm]
  | _ => simp [ramBanksOf, ramBanksOfCode_eq_some_iff]

/-- A header parses when the length is in range (R500) and each of the three codes has a meaning. -/
theorem parseHeader_eq_ok_iff (c : Cart) (hd : Header) : parseHeader c = .ok hd ↔
    0x150 ≤ c.len ∧ c.len ≤ 0x200000 ∧ typeOfCode (romByte c 0x147) = some hd.mbcType ∧
    romBanksOfCode (romByte c 0x148) = some hd.romBanks ∧
    ramBanksOf hd.mbcType (romByte c 0x149) = some hd.ramBanks := by
  constructor
  · intro h
    unfold parseHeader at h
    split_ifs at h with hshort hlong
    split at h
    · cases h
    next k htype =>
    split at h
    · cases h
    next rom hrom =>
    split at h
    · cases h
    next ram hram =>
    cases h
    exact ⟨Nat.le_of_not_lt hshort, Nat.le_of_not_lt hlong, htype, hrom, hram⟩
  · rintro ⟨hshort, hlong, htype, hrom, hram⟩
    simp only [parseHeader, if_neg (Nat.not_lt.2 hshort), if_neg (Nat.not_lt.2 hlong), htype, hrom, hram]

/-- Construction asks for a header, and for a boot ROM if the reset is cold (R500, R520). -/
theorem construct_ok_iff (par : Params) (cart : Cart) (rom : Option Memory) (skip : Bool)
    (script : List (List HostAction)) : (∃ s, construct par cart rom skip script = .ok s) ↔
    (∃ hd, parseHeader cart = .ok hd) ∧ (skip = true ∨ rom ≠ none) := by
  unfold construct
  cases parseHeader cart with
  | error e => simp
  | ok hd => cases skip <;> cases rom <;> simp

/-- Settles O56: each table by its own lemma, put together by `parseHeader_eq_ok_iff`. -/
theorem headerParsing : Obligations.HeaderParsing := by
  refine ⟨fun cart => ?_, construct_ok_iff⟩
  intro t sz rm hd
  rw [parseHeader_eq_ok_iff, typeOfCode_eq_some_iff, romBanksOfCode_eq_some_iff, ramBanksOf_eq_some_iff]
  constructor
  · rintro ⟨hshort, hlong, htype, ⟨hsz, hrom⟩, hrm, hram⟩
    exact ⟨hshort, hlong, hsz, hrm, htype, hrom, hram⟩
  · rintro ⟨hshort, hlong, hsz, hrm, htype, hrom, hram⟩
    exact ⟨hshort, hlong, htype, ⟨hsz, hrom⟩, hrm, hram⟩

/-! ### The address map, by last addresses (R84 to R86) -/

/-- The regions by the last address of each, as the rules name them (spec/20_memory.md section 2). -/
theorem regionOf_eq_ite_le (n : Nat) : regionOf n =
    if n ≤ 0x3FFF then .romFixed else if n ≤ 0x7FFF then .romBanked else if n ≤ 0x9FFF then .vram
    else if n ≤ 0xBFFF then .xram else if n ≤ 0xDFFF then .wram else if n ≤ 0xFDFF then .echo
    else if n ≤ 0xFE9F then .oam else if n ≤ 0xFEFF then .hole else if n ≤ 0xFF7F then .io
    else if n ≤ 0xFFFE then .hram else .ie := by
  simp only [regionOf, Nat.lt_succ_iff]

theorem regionOf_ram_range (n : Nat) : (regionOf n = .vram ↔ 0x8000 ≤ n ∧ n ≤ 0x9FFF) ∧
    (regionOf n = .wram ↔ 0xC000 ≤ n ∧ n ≤ 0xDFFF) ∧ (regionOf n = .echo ↔ 0xE000 ≤ n ∧ n ≤ 0xFDFF) := by
  rw [regionOf_eq_ite_le]
  split_ifs <;> simp <;> omega

/-- The PPU keeps the CPU from video RAM in mode 3, from OAM in modes 2 and 3 (R91, R96). -/
theorem ppuBlocks_iff (a : Word) (s : State) : ppuBlocks a s = true ↔
    (regionOf a.toNat = .vram ∧ s.ppu.stat.toNat % 4 = 3) ∨
    (regionOf a.toNat = .oam ∧ (s.ppu.stat.toNat % 4 = 2 ∨ s.ppu.stat.toNat % 4 = 3)) := by
  have hmode : s.ppu.mode = s.ppu.stat.toNat % 4 := rfl
  rw [← hmode, ppuBlocks]
  cases regionOf a.toNat <;> simp

/-- A transfer blocks the addresses that are not exempt (R107). -/
theorem dmaBlocks_iff (a : Word) (s : State) :
    dmaBlocks a s = true ↔ s.dma.active = true ∧ dmaExempt s.par a = false := by
  rw [dmaBlocks, Bool.and_eq_true, Bool.not_eq_true']

/-- `Load` by last addresses (R86). -/
theorem load_eq (n : Nat) (s : State) : load n s =
    if n ≤ 0x3FFF then romByte s.cart n
    else if n ≤ 0x7FFF then romByte s.cart (s.mbc.romBank * 0x4000 + (n - 0x4000))
    else if n ≤ 0x9FFF then Memory.read s.mem n
    else if n ≤ 0xBFFF then xramRead s.mbc s.xram n
    else if n ≤ 0xDFFF then Memory.read s.mem n
    else if n ≤ 0xFDFF then Memory.read s.mem (n - 0x2000)
    else if n ≤ 0xFE9F then Memory.read s.mem n
    else if n ≤ 0xFEFF then 0xFF#8
    else if n ≤ 0xFF7F then ioStored (ioRegOf n) n s
    else if n ≤ 0xFFFE then Memory.read s.mem n
    else s.irq.enable := by
  rw [load, regionOf_eq_ite_le]
  split_ifs <;> rfl

/-- The route of a write by last addresses (R85); the two ROM regions go to the controller alike. -/
theorem routeWrite_eq (a : Word) (v : Byte) (s : State) : routeWrite a v s =
    if a.toNat ≤ 0x7FFF then { s with mbc := mbcWrite a v s.mbc }
    else if a.toNat ≤ 0x9FFF then storeMem a.toNat v s
    else if a.toNat ≤ 0xBFFF then { s with xram := xramWrite s.mbc s.xram a.toNat v }
    else if a.toNat ≤ 0xDFFF then storeMem a.toNat v s
    else if a.toNat ≤ 0xFDFF then storeMem (a.toNat - 0x2000) v s
    else if a.toNat ≤ 0xFE9F then storeMem a.toNat v s
    else if a.toNat ≤ 0xFEFF then s
    else if a.toNat ≤ 0xFF7F then ioWrite (ioRegOf a.toNat) a.toNat v s
    else if a.toNat ≤ 0xFFFE then storeMem a.toNat v s
    else { s with irq := { s.irq with enable := v } } := by
  rw [routeWrite, regionOf_eq_ite_le]
  by_cases hfixed : a.toNat ≤ 0x3FFF
  · simp only [if_pos hfixed, if_pos (hfixed.trans (by decide : 0x3FFF ≤ 0x7FFF))]
  · rw [if_neg hfixed]
    split_ifs <;> rfl

/-- A debug peek gives the register values and the images alone (R84, R385). -/
theorem debugPeek_eq (a : Word) (s : State) : debugPeek a s =
    if 0xFF00 ≤ a.toNat ∧ a.toNat ≤ 0xFF7F then ioRead (ioRegOf a.toNat) a.toNat s else load a.toNat s :=
  if_congr ((regionOf_range _).1.trans (and_congr_right' Nat.lt_succ_iff)) rfl rfl

/-- Steps 2 to 7 of a CPU read, in the order of R84. -/
theorem cpuRead_eq (a : Word) (s : State) : cpuRead a s =
    if s.dma.active = true ∧ dmaExempt s.par a = false then s.par.blockedRead
    else if s.bootOverlay = true ∧ a.toNat ≤ 0x00FF then Memory.read s.bootRom a.toNat
    else if 0x8000 ≤ a.toNat ∧ a.toNat ≤ 0x9FFF ∧ s.ppu.stat.toNat % 4 = 3 then 0xFF#8
    else if 0xFE00 ≤ a.toNat ∧ a.toNat ≤ 0xFE9F ∧ (s.ppu.stat.toNat % 4 = 2 ∨ s.ppu.stat.toNat % 4 = 3) then 0xFF#8
    else if 0xFF00 ≤ a.toNat ∧ a.toNat ≤ 0xFF7F then ioRead (ioRegOf a.toNat) a.toNat s
    else load a.toNat s := by
  rw [cpuRead, debugPeek_eq]
  simp only [dmaBlocks_iff, ppuBlocks_iff, Bool.and_eq_true, decide_eq_true_eq, (regionOf_ram_range _).1,
    (regionOf_range _).2, Nat.lt_succ_iff, and_assoc, ite_or]

/-- Settles O31: a CPU read is `cpuRead` after the charge; in `Load`, DIV is the stored byte of its register. -/
theorem cpuReads : Obligations.CpuReads := by
  refine ⟨fun a s => congrArg (·, busTick s) (cpuRead_eq a (busTick s)), fun a s => ?_, debugPeek_eq⟩
  intro n rom
  rw [load_eq]
  by_cases hdiv : n = 0xFF04
  · rw [hdiv]; rfl
  · rw [if_neg hdiv]; rfl

/-- Steps 2 and 3 of a CPU write (R85): the PPU blocks two of the routes alone. -/
theorem cpuWrite_eq (a : Word) (v : Byte) (s : State) : cpuWrite a v s =
    if s.dma.active = true ∧ dmaExempt s.par a = false then s
    else if a.toNat ≤ 0x7FFF then { s with mbc := mbcWrite a v s.mbc }
    else if a.toNat ≤ 0x9FFF then (if s.ppu.stat.toNat % 4 = 3 then s else storeMem a.toNat v s)
    else if a.toNat ≤ 0xBFFF then { s with xram := xramWrite s.mbc s.xram a.toNat v }
    else if a.toNat ≤ 0xDFFF then storeMem a.toNat v s
    else if a.toNat ≤ 0xFDFF then storeMem (a.toNat - 0x2000) v s
    else if a.toNat ≤ 0xFE9F then
      (if s.ppu.stat.toNat % 4 = 2 ∨ s.ppu.stat.toNat % 4 = 3 then s else storeMem a.toNat v s)
    else if a.toNat ≤ 0xFEFF then s
    else if a.toNat ≤ 0xFF7F then ioWrite (ioRegOf a.toNat) a.toNat v s
    else if a.toNat ≤ 0xFFFE then storeMem a.toNat v s
    else { s with irq := { s.irq with enable := v } } := by
  rw [cpuWrite, routeWrite_eq]
  refine if_congr (by rw [dmaBlocks_iff]) rfl ?_
  by_cases hb : ppuBlocks a s = true
  · rw [if_pos hb]
    rw [ppuBlocks_iff, (regionOf_ram_range _).1, (regionOf_range _).2] at hb
    obtain ⟨hvram, hmode⟩ | ⟨hoam, hmode⟩ := hb
    · rw [if_neg (by omega), if_pos hvram.2, if_pos hmode]
    · rw [if_neg (by omega), if_neg (by omega), if_neg (by omega), if_neg (by omega), if_neg (by omega),
        if_pos (by omega), if_pos hmode]
  · rw [if_neg hb]
    rw [ppuBlocks_iff, (regionOf_ram_range _).1, (regionOf_range _).2] at hb
    refine ite_congr rfl (fun _ => rfl) fun hrom => ite_congr rfl (fun hvram => ?_) fun _ =>
      ite_congr rfl (fun _ => rfl) fun _ => ite_congr rfl (fun _ => rfl) fun _ =>
      ite_congr rfl (fun _ => rfl) fun hecho => ite_congr rfl (fun hoam => ?_) fun _ => rfl
    · exact (if_neg (by omega)).symm
    · exact (if_neg (by omega)).symm

/-- Settles O32: a CPU write is `cpuWrite` after the charge; 0x2000 below an echo address lies work RAM. -/
theorem cpuWrites : Obligations.CpuWrites := by
  refine ⟨fun a v s => cpuWrite_eq a v (busTick s), fun a v s hlo hhi => ?_⟩
  have hsub : (a - 0x2000#16).toNat = a.toNat - 0x2000 := by bv_omega
  have hecho : regionOf a.toNat = .echo := (regionOf_ram_range _).2.2.2 ⟨hlo, hhi⟩
  have hwram : regionOf (a.toNat - 0x2000) = .wram := (regionOf_ram_range _).2.1.2 (by omega)
  simp only [load, routeWrite, hsub, hecho, hwram, and_self]

/-! ### OAM DMA (R105 to R107) -/

theorem Memory.wf_foldl_write (l : List Nat) (base : Nat) (f : Nat → Byte) (m : Memory) (h : Memory.wf m = true) :
    Memory.wf (l.foldl (fun m i => Memory.write m (base + i) (f i)) m) = true :=
  List.foldlRecOn l _ (motive := fun m => Memory.wf m = true) h fun m hm _ _ => Memory.wf_write m _ _ hm

/-- A block of bytes written one after the other from `base` on reads back. -/
theorem Memory.read_foldl_write (n base : Nat) (f : Nat → Byte) (m : Memory) (h : Memory.wf m = true) (k : Nat)
    (hk : k < n) :
    Memory.read ((List.range n).foldl (fun m i => Memory.write m (base + i) (f i)) m) (base + k) = f k := by
  induction n with
  | zero => omega
  | succ n ih =>
    rw [List.range_succ, List.foldl_append, List.foldl_cons, List.foldl_nil]
    by_cases hkn : k = n
    · subst hkn
      exact Memory.read_write_same _ _ _ (Memory.wf_foldl_write _ base f m h)
    · rw [Memory.read_write_other _ _ _ _ (by omega)]
      exact ih (by omega)

theorem load_oam (k : Nat) (hk : k < 0xA0) (s : State) : load (0xFE00 + k) s = Memory.read s.mem (0xFE00 + k) := by
  have hr : regionOf (0xFE00 + k) = .oam := (regionOf_range _).2.2 (by omega)
  rw [load, hr]

/-- The transfer registers show at 0xFF46 alone. -/
theorem load_otherDma (b : Nat) (hb : b ≠ 0xFF46) (s : State) (d : Dma) : load b { s with dma := d } = load b s := by
  unfold load
  cases hr : regionOf b
  case io =>
    refine ioStored_dma _ b s d fun hdma => ?_
    have hplain := ioReg_inj b 0xFF46 ((regionOf_range b).1.1 hr) (by decide) hdma hb
    rw [hdma] at hplain
    exact absurd hplain (by decide)
  all_goals rfl

theorem startDma_dma (v : Byte) (s : State) : (startDma v s).dma = { reg := v, active := true, elapsed := 0 } := rfl

/-- The trigger changes the transfer registers and `MEM` alone (R105). -/
theorem startDma_frame (v : Byte) (s : State) :
    startDma v s = { s with dma := (startDma v s).dma, mem := (startDma v s).mem } := by
  rw [startDma]

theorem startDma_mem_eq (v : Byte) (s : State) : (startDma v s).mem =
    dmaCopy (min v.toNat s.par.dmaMaxPage.toNat) { s with dma := (startDma v s).dma } := by
  rw [startDma]

/-- After the trigger OAM holds the source page, whatever the page (R105). -/
theorem load_startDma_oam (v : Byte) (s : State) (h : Memory.wf s.mem = true) (k : Nat) (hk : k < 0xA0) :
    load (0xFE00 + k) (startDma v s) =
      load (min v.toNat s.par.dmaMaxPage.toNat * 0x100 + k) { s with dma := (startDma v s).dma } := by
  rw [load_oam k hk, startDma_mem_eq, dmaCopy]
  exact Memory.read_foldl_write 0xA0 0xFE00 _ s.mem h k hk

/-- The trigger changes no byte outside OAM but the DMA register. -/
theorem load_startDma_other (v : Byte) (s : State) (b : Nat) (hoam : regionOf b ≠ .oam) (hb : b ≠ 0xFF46) :
    load b (startDma v s) = load b s := by
  have hmem : ∀ k, (k = if regionOf b = .echo then b - 0x2000 else b) →
      Memory.read (startDma v s).mem k = Memory.read s.mem k := by
    intro k hk
    refine startDma_mem v s k ?_
    rw [ne_eq, (regionOf_range b).2] at hoam
    split_ifs at hk with hecho
    · have := regionOf_echo b hecho
      omega
    · omega
  rw [startDma_frame]
  exact (load_otherMem { s with dma := (startDma v s).dma } b _ hmem).trans (load_otherDma b hb s _)

/-- Outside a transfer a write of 0xFF46 is the trigger (R41, R105). -/
theorem cpuWrite_dma (v : Byte) (s : State) (h : s.dma.active = false) : cpuWrite 0xFF46#16 v s = startDma v s := by
  have hdma : ¬ dmaBlocks 0xFF46#16 s = true := by simp [dmaBlocks_iff, h]
  have hppu : ¬ ppuBlocks 0xFF46#16 s = true := Bool.false_ne_true
  have hregion : regionOf (0xFF46#16).toNat = .io := by decide
  have hreg : ioRegOf (0xFF46#16).toNat = .dma := by decide
  rw [cpuWrite, if_neg hdma, if_neg hppu]
  simp only [routeWrite, hregion, hreg, ioWrite]

/-- By default HRAM alone is exempt (R107). -/
theorem dmaExempt_default_iff (a : Word) :
    dmaExempt Params.default a = true ↔ 0xFF80 ≤ a.toNat ∧ a.toNat ≤ 0xFFFE := by
  have hlist : Params.default.dmaExempt = [(0xFF80#16, 0xFFFE#16)] := rfl
  rw [dmaExempt, hlist, List.any_cons, List.any_nil, Bool.or_false, Bool.and_eq_true, decide_eq_true_iff,
    decide_eq_true_iff]
  exact Iff.rfl

/-- Settles O37: the trigger by its two `load` lemmas, the blocking by `dmaBlocks`. -/
theorem oamDma : Obligations.OamDma := by
  refine ⟨fun v s hmem hact => ?_, fun _ _ => rfl, fun a v s hact hex => ?_, fun a => ⟨?_, rfl, rfl, rfl⟩⟩
  · rw [cpuWrite_dma v s hact]
    exact ⟨startDma_dma v s, startDma_frame v s, load_startDma_oam v s hmem, load_startDma_other v s⟩
  · have hb : dmaBlocks a s = true := (dmaBlocks_iff a s).2 ⟨hact, hex⟩
    exact ⟨if_pos hb, if_pos hb⟩
  · exact Bool.eq_iff_iff.2 ((dmaExempt_default_iff a).trans decide_eq_true_iff.symm)

end Sys2Proof.Machine
end

section
/-! PROOFS. The family of spec/30_encoding.md: a step as one pass of the run loop (R370), and the fetch of the bytes that
decode to the instruction it runs (R141, R147). -/

namespace Sys2Proof.Machine

/-! ### The fetch (R141, R147) -/

/-- How far the fetch of the opcode moves PC: not at all under the HALT-bug latch (R141). -/
def Cpu.opcodeStride (u : Cpu) : Word := if u.haltBug then 0#16 else 1#16

/-- The CPU registers after the fetch of the opcode and of `k` bytes more. -/
def Cpu.fetched (u : Cpu) (k : Nat) : Cpu :=
  { u with pc := u.pc + u.opcodeStride + BitVec.ofNat 16 k, haltBug := false }

theorem fetchOpcode_eq (s : State) :
    fetchOpcode s = (cpuRead s.cpu.pc (busTick s), { busTick s with cpu := s.cpu.fetched 0 }) := by
  unfold fetchOpcode withCpu Cpu.fetched Cpu.opcodeStride
  cases hbug : s.cpu.haltBug <;> simp [hbug]

theorem fetch8_fetched (s : State) (u : Cpu) (k : Nat) : fetch8 { s with cpu := u.fetched k } =
    (cpuRead (u.pc + u.opcodeStride + BitVec.ofNat 16 k) (busTick s),
      { busTick s with cpu := u.fetched (k + 1) }) := by
  rw [fetch8, memRead_value, memRead_state, busTick_withCpu, cpuRead_cpu, withCpu]
  simp only [Cpu.fetched, BitVec.ofNat_add, BitVec.add_assoc]

/-- What decodes from three bytes, by the number of operand bytes the first asks for. -/
theorem decode_three_eq_ok {op b1 b2 : Byte} {i : Instr} {rest : List Byte}
    (h : decode [op, b1, b2] = .ok (i, rest)) :
    (operandBytes op = 0 ∧ i = decodeOp op 0x00#8 0x00#8 ∧ rest = [b1, b2]) ∨
    (operandBytes op = 1 ∧ i = decodeOp op b1 0x00#8 ∧ rest = [b2]) ∨
    (operandBytes op = 2 ∧ i = decodeOp op b1 b2 ∧ rest = []) := by
  unfold decode at h
  match hlen : operandBytes op with
  | 0 => simp only [hlen] at h; cases h; exact .inl ⟨rfl, rfl, rfl⟩
  | 1 => simp only [hlen] at h; cases h; exact .inr (.inl ⟨rfl, rfl, rfl⟩)
  | 2 => simp only [hlen] at h; cases h; exact .inr (.inr ⟨rfl, rfl, rfl⟩)
  | _ + 3 => simp only [hlen] at h; cases h

/-- If the bytes the CPU reads from PC on decode, the fetch gives the instruction, each of its bytes charged and passed. -/
theorem fetchInstr_of_decode (s : State) (i : Instr) (rest : List Byte)
    (h : decode [cpuRead s.cpu.pc (busTick s), cpuRead (s.cpu.pc + s.cpu.opcodeStride) (busTick (busTick s)),
      cpuRead (s.cpu.pc + s.cpu.opcodeStride + 1#16) (busTick (busTick (busTick s)))] = .ok (i, rest)) :
    fetchInstr s =
      (i, { iterate busTick (3 - rest.length) s with cpu := s.cpu.fetched (3 - rest.length - 1) }) := by
  obtain ⟨hlen, rfl, rfl⟩ | ⟨hlen, rfl, rfl⟩ | ⟨hlen, rfl, rfl⟩ := decode_three_eq_ok h
  · simp only [fetchInstr, fetchOpcode_eq, hlen]; rfl
  · simp only [fetchInstr, fetchOpcode_eq, fetch8_fetched, hlen, BitVec.add_zero]; rfl
  · simp only [fetchInstr, fetchOpcode_eq, fetch8_fetched, hlen, BitVec.add_zero]; rfl

/-! ### One pass of the run loop (R370, R372, R380) -/

/-- The host's turn takes the first list of the actions to come, which may be missing (R380). -/
theorem hostTurn_eq (s : State) : hostTurn s =
    (s.port.script.headD []).foldl hostAction { s with port := { s.port with script := s.port.script.tail } } := by
  unfold hostTurn
  split
  next hscript =>
    rw [hscript, List.headD_nil, List.foldl_nil, List.tail_nil, ← hscript]
  next hscript => rw [hscript]; rfl

theorem step_of_stopped (s : State) (h : s.port.runState = .stopRequested) : step s = .next s :=
  if_pos h

theorem step_of_notStopped (s : State) (h : s.port.runState ≠ .stopRequested) : step s =
    if (hostTurn s).port.runState = .running then iteration (hostTurn s) else .next (hostTurn s) := by
  rw [step, loopPass, if_neg h]
  dsimp only
  cases hrun : (hostTurn s).port.runState <;> rfl

theorem mapNext_mapNext (f g : State → State) (x : Result) :
    mapNext f (mapNext g x) = mapNext (fun s => f (g s)) x := by
  cases x <;> rfl

/-- An iteration of a CPU that is not halted is that of the instruction fetched (R372). -/
theorem iteration_of_fetched (s : State) (h : s.cpu.halted = false) (i : Instr) (t : State)
    (hfetch : fetchInstr { s with charged := 0 } = (i, t)) :
    iteration s = mapNext (fun u => afterStep (applyArmed (eiArmed s) i u)) (exec i t) := by
  have hcpu : cpuStep s = runInstr { s with charged := 0 } := if_neg (by simp [h])
  rw [iteration, hcpu, runInstr, hfetch, mapNext_mapNext]
  rfl

/-- Settles O5: the host's turn, then the branches of the loop and of `Step()`, the fetch by `fetchInstr_of_decode`. -/
theorem stepRunsDecodedInstruction : Obligations.StepRunsDecodedInstruction := by
  intro s
  rw [← hostTurn_eq]
  intro h s0
  refine ⟨fun hscript => ?_, step_of_stopped s, fun hstop hwait => ?_, fun hstop hrun hhalt => ?_,
    fun i rest hstop hrun hhalt _ => ?_⟩
  · simp only [h, hostTurn, hscript]
  · rw [step_of_notStopped s hstop, if_neg hwait]
  · rw [step_of_notStopped s hstop, if_pos hrun, iteration, cpuStep_of_halted h hhalt]
    rfl
  · intro d hdecode
    rw [step_of_notStopped s hstop, if_pos hrun]
    exact iteration_of_fetched h hhalt i _ (fetchInstr_of_decode s0 i rest hdecode)

end Sys2Proof.Machine
end

section
/-! PROOFS. The family of spec/40_load8.md and spec/41_load16.md: the 8-bit loads and stores (R170 to R188), the 16-bit
loads and the stack (R200 to R202, R206, R207). -/

namespace Sys2Proof.Machine

/-! ### The bytes of the load families (R150, R170 to R174, R200, R206, R207) -/

theorem decode_ldRegReg (rd rs : Reg8) :
    decode [opcode (0x40 + 8 * r8Num rd + r8Num rs)] = .ok (ldRegReg rd rs, []) := by
  cases rd <;> cases rs <;> rfl

theorem decode_ldRegImm (rd : Reg8) (n : Byte) :
    decode [opcode (0x06 + 8 * r8Num rd), n] = .ok (ldRegImm rd n, []) := by
  cases rd <;> rfl

theorem decode_ldRegHl (rd : Reg8) : decode [opcode (0x46 + 8 * r8Num rd)] = .ok (ldRegHl rd, []) := by
  cases rd <;> rfl

theorem decode_ldHlReg (rs : Reg8) : decode [opcode (0x70 + r8Num rs)] = .ok (ldHlReg rs, []) := by
  cases rs <;> rfl

theorem decode_ldPairImm (p : Reg16) (lo hi : Byte) :
    decode [opcode (0x01 + 0x10 * r16Num p), lo, hi] = .ok (ldPairImm p (cat hi lo), []) := by
  cases p <;> rfl

theorem decode_pushPair (p : StackPair) : decode [opcode (0xC5 + 0x10 * stackNum p)] = .ok (pushPair p, []) := by
  cases p <;> rfl

theorem decode_popPair (p : StackPair) : decode [opcode (0xC1 + 0x10 * stackNum p)] = .ok (popPair p, []) := by
  cases p <;> rfl

/-! ### The stack (R81, R206, R207) -/

/-- The high byte goes to SP - 1, then the low byte to SP - 2. -/
theorem push16_eq (v : Word) (s : State) : push16 v s =
    memWrite (s.cpu.sp - 2#16) (loByte v)
      { memWrite (s.cpu.sp - 1#16) (hiByte v) { s with cpu := { s.cpu with sp := s.cpu.sp - 1#16 } } with
        cpu := { s.cpu with sp := s.cpu.sp - 2#16 } } := by
  have hsp : s.cpu.sp - 1#16 - 1#16 = s.cpu.sp - 2#16 := BitVec.sub_sub ..
  simp only [push16, pushByte, setSp, withCpu, memWrite_cpu, hsp]

/-- A pop into a pair: the low byte comes from SP, then the high byte from SP + 1. -/
theorem pop16_setStack_eq (p : StackPair) (s : State) :
    withCpu (Cpu.setStack p (pop16 s).1) (pop16 s).2 =
      let lo := memRead s.cpu.sp s
      let hi := memRead (s.cpu.sp + 1#16) { lo.2 with cpu := { s.cpu with sp := s.cpu.sp + 1#16 } }
      { hi.2 with cpu := Cpu.setStack p (cat hi.1 lo.1) { s.cpu with sp := s.cpu.sp + 2#16 } } := by
  have hsp : s.cpu.sp + 1#16 + 1#16 = s.cpu.sp + 2#16 := BitVec.add_assoc ..
  simp only [withCpu, pop16_cpu, hsp]
  rfl

/-- Settles O8: the decoding and the meaning of each family; the stack by `push16_eq` and `pop16_setStack_eq`. -/
theorem loadsOfRegistersAndStack : Obligations.LoadsOfRegistersAndStack := by
  refine ⟨⟨fun rd rs => ⟨decode_ldRegReg rd rs, exec_ldRegReg rd rs⟩,
    fun rd n => ⟨decode_ldRegImm rd n, exec_ldRegImm rd n⟩,
    fun p lo hi => ⟨decode_ldPairImm p lo hi, exec_ldPairImm p (cat hi lo)⟩,
    rfl, fun _ => rfl⟩,
    fun p => ⟨decode_pushPair p, fun s => ?_⟩, fun p => ⟨decode_popPair p, fun s => ?_⟩⟩
  · rw [exec_pushPair, pushPairOp, push16_eq]
    rfl
  · rw [exec_popPair, popPairOp, pop16_setStack_eq]
    cases p <;> simp only [Cpu.setStack, Cpu.setBc, Cpu.setDe, Cpu.setHl, Cpu.setAf, hiByte_cat, loByte_cat] <;> rfl

/-! ### The loads and stores of A (R175 to R188) -/

theorem loadA_eq (c : Nat) (a : Word) (s : State) : loadA c a s =
    .next (finish c { busTick s with cpu := { s.cpu with a := (memRead a s).1 } }) := rfl

theorem loadAStep_eq (d : Word) (s : State) : loadAStep d s =
    .next (finish 8 { busTick s with
      cpu := { s.cpu with a := (memRead s.cpu.hl s).1 }.setHl (s.cpu.hl + d) }) := rfl

theorem storeAStep_eq (d : Word) (s : State) : storeAStep d s =
    .next (finish 8 { memWrite s.cpu.hl s.cpu.a s with cpu := s.cpu.setHl (s.cpu.hl + d) }) := by
  rw [storeAStep, stepHl, withCpu, memWrite_cpu]
  rfl

/-- Settles O9: each form by the meaning it shares; HL- adds the negative of one. -/
theorem loadsFromMemory : Obligations.LoadsFromMemory := by
  refine ⟨fun rd => ⟨decode_ldRegHl rd, exec_ldRegHl rd⟩, ⟨rfl, fun s => loadA_eq 8 s.cpu.bc s⟩,
    ⟨rfl, fun s => loadA_eq 8 s.cpu.de s⟩, fun lo hi => ⟨rfl, loadA_eq 16 (cat hi lo)⟩,
    fun n => ⟨rfl, loadA_eq 12 (highPage n)⟩, ⟨rfl, fun s => loadA_eq 8 (highPage s.cpu.c) s⟩,
    ⟨rfl, loadAStep_eq 1#16⟩, rfl, fun s => ?_⟩
  beta_reduce
  rw [BitVec.sub_eq_add_neg]
  exact loadAStep_eq (-1#16) s

/-- Settles O10: a form without an HL step is its charged writes by definition; HL- adds the negative of one. -/
theorem storesToMemory : Obligations.StoresToMemory := by
  refine ⟨fun rs => ⟨decode_ldHlReg rs, exec_ldHlReg rs⟩, fun _ => ⟨rfl, fun _ => rfl⟩, ⟨rfl, fun _ => rfl⟩,
    ⟨rfl, fun _ => rfl⟩, fun _ _ => ⟨rfl, fun _ => rfl⟩, fun _ => ⟨rfl, fun _ => rfl⟩, ⟨rfl, fun _ => rfl⟩,
    ⟨rfl, storeAStep_eq 1#16⟩, ⟨rfl, fun s => ?_⟩, fun _ _ => ⟨rfl, fun _ => rfl⟩⟩
  beta_reduce
  rw [BitVec.sub_eq_add_neg]
  exact storeAStep_eq (-1#16) s

end Sys2Proof.Machine
end

section
/-! PROOFS. The family of spec/41_load16.md and spec/43_alu16.md: 16-bit arithmetic (R203, R270 to R273). -/

namespace Sys2Proof.Machine

/-! ### The bytes of the pair families (R144, R270 to R272) -/

theorem decode_addHlPair (p : Reg16) : decode [opcode (0x09 + 0x10 * r16Num p)] = .ok (addHlPair p, []) := by
  cases p <;> rfl

theorem decode_incPair (p : Reg16) : decode [opcode (0x03 + 0x10 * r16Num p)] = .ok (incPair p, []) := by
  cases p <;> rfl

theorem decode_decPair (p : Reg16) : decode [opcode (0x0B + 0x10 * r16Num p)] = .ok (decPair p, []) := by
  cases p <;> rfl

/-- Settles O17: each family by the meaning its instructions share; DEC adds the negative of one. -/
theorem wordArithmetic : Obligations.WordArithmetic := by
  refine ⟨fun p => ⟨decode_addHlPair p, exec_addHlPair p⟩, fun p => ⟨decode_incPair p, exec_incPair p⟩,
    fun p => ⟨decode_decPair p, fun s => ?_⟩, fun _ => ⟨rfl, fun _ => rfl⟩, fun _ => ⟨rfl, fun _ => rfl⟩⟩
  beta_reduce
  rw [BitVec.sub_eq_add_neg]
  exact exec_decPair p s

end Sys2Proof.Machine
end

section
/-! PROOFS. The family of spec/42_alu8.md: 8-bit addition, subtraction and logic (R215 to R217), their register, memory
and immediate forms (R220 to R243), INC, DEC, DAA, CPL, SCF and CCF (R244 to R251). -/

namespace Sys2Proof.Machine

/-! ### The flags of a packed F (R22) -/

@[simp] theorem flagZ_packFlags (z n h c : Bool) : flagZ (packFlags z n h c) = z := by
  cases z <;> cases n <;> cases h <;> cases c <;> rfl

@[simp] theorem flagN_packFlags (z n h c : Bool) : flagN (packFlags z n h c) = n := by
  cases z <;> cases n <;> cases h <;> cases c <;> rfl

@[simp] theorem flagH_packFlags (z n h c : Bool) : flagH (packFlags z n h c) = h := by
  cases z <;> cases n <;> cases h <;> cases c <;> rfl

@[simp] theorem flagC_packFlags (z n h c : Bool) : flagC (packFlags z n h c) = c := by
  cases z <;> cases n <;> cases h <;> cases c <;> rfl

/-! ### Addition, subtraction, logic (R215 to R217) -/

theorem add8_toNat (a b : Byte) (c : Bool) : (add8 a b c).1.toNat = (a.toNat + b.toNat + bitNat c) % 256 :=
  BitVec.toNat_ofNat ..

/-- Z of an addition: a byte is 0 when its number is. -/
theorem add8_flagZ (a b : Byte) (c : Bool) :
    flagZ (add8 a b c).2 = decide ((a.toNat + b.toNat + bitNat c) % 256 = 0) := by
  have hz : (add8 a b c).1 = 0#8 ↔ (a.toNat + b.toNat + bitNat c) % 256 = 0 := by
    rw [← add8_toNat, BitVec.toNat_eq, BitVec.toNat_zero]
  exact (flagZ_packFlags ..).trans (decide_eq_decide.mpr hz)

/-- The difference is below 256 and, with 512 added, not negative. -/
theorem sub8_toNat (a b : Byte) (c : Bool) :
    (sub8 a b c).1.toNat = (a.toNat + 512 - b.toNat - bitNat c) % 256 := by
  have hb : b.toNat < 256 := b.isLt
  have hc : bitNat c ≤ 1 := by cases c <;> decide
  simp only [sub8, BitVec.toNat_ofInt]
  omega

/-- F of a logical operation, as a byte: Z is bit 7, and AND sets Hf, bit 5. -/
theorem packFlags_logic (p : Prop) [Decidable p] (h : Bool) :
    packFlags (decide p) false h false = if p then packFlags true false h false else packFlags false false h false := by
  split <;> simp only [*, decide_true, decide_false]

/-- Settles O14: the results as numbers, and each flag read back from the packed F. -/
theorem byteArithmetic : Obligations.ByteArithmetic := by
  intro a b c
  refine ⟨⟨add8_toNat a b c, add8_flagZ a b c, flagN_packFlags .., flagH_packFlags .., flagC_packFlags ..,
      packFlags_low ..⟩,
    ⟨sub8_toNat a b c, flagZ_packFlags .., flagN_packFlags .., flagH_packFlags .., flagC_packFlags ..,
      packFlags_low ..⟩,
    congrArg _ (packFlags_logic _ true), congrArg _ (packFlags_logic _ false), congrArg _ (packFlags_logic _ false)⟩

/-! ### The operations on A (R218, R220 to R243) -/

theorem decode_aluReg (op : AluOp) (r : Reg8) :
    decode [opcode (0x80 + 8 * aluNum op + r8Num r)] = .ok (aluReg op r, []) := by
  cases op <;> cases r <;> rfl

theorem decode_aluHl (op : AluOp) : decode [opcode (0x86 + 8 * aluNum op)] = .ok (aluHl op, []) := by
  cases op <;> rfl

theorem decode_aluImm (op : AluOp) (n : Byte) :
    decode [opcode (0xC6 + 8 * aluNum op), n] = .ok (aluImm op n, []) := by
  cases op <;> rfl

theorem runs_aluReg (op : AluOp) (r : Reg8) : Runs [opcode (0x80 + 8 * aluNum op + r8Num r)] (aluReg op r) 4
    fun s => aluStore op (s.cpu.get8 r) s :=
  ⟨decode_aluReg op r, exec_aluReg op r⟩

/-- The charged read leaves the registers alone, so the operands are those of the state before it. -/
theorem runs_aluHl (op : AluOp) : Runs [opcode (0x86 + 8 * aluNum op)] (aluHl op) 8
    fun s => aluStore op (memRead s.cpu.hl s).1 (memRead s.cpu.hl s).2 :=
  ⟨decode_aluHl op, exec_aluHl op⟩

theorem runs_aluImm (op : AluOp) (n : Byte) : Runs [opcode (0xC6 + 8 * aluNum op), n] (aluImm op n) 8
    fun s => aluStore op n s :=
  ⟨decode_aluImm op n, exec_aluImm op n⟩

/-- Settles O11: one form for each operation. -/
theorem aluRegisterForms : Obligations.AluRegisterForms :=
  ⟨runs_aluReg .add, runs_aluReg .adc, runs_aluReg .sub, runs_aluReg .sbc, runs_aluReg .and, runs_aluReg .xor,
    runs_aluReg .or, runs_aluReg .cp⟩

/-- Settles O12: one form for each operation. -/
theorem aluMemoryForms : Obligations.AluMemoryForms :=
  ⟨runs_aluHl .add, runs_aluHl .adc, runs_aluHl .sub, runs_aluHl .sbc, runs_aluHl .and, runs_aluHl .xor,
    runs_aluHl .or, runs_aluHl .cp⟩

/-- Settles O13: one form for each operation. -/
theorem aluImmediateForms : Obligations.AluImmediateForms := fun n =>
  ⟨runs_aluImm .add n, runs_aluImm .adc n, runs_aluImm .sub n, runs_aluImm .sbc n, runs_aluImm .and n,
    runs_aluImm .xor n, runs_aluImm .or n, runs_aluImm .cp n⟩

/-! ### INC, DEC, DAA (R244 to R248) -/

theorem decode_incReg (r : Reg8) : decode [opcode (0x04 + 8 * r8Num r)] = .ok (incReg r, []) := by
  cases r <;> rfl

theorem decode_decReg (r : Reg8) : decode [opcode (0x05 + 8 * r8Num r)] = .ok (decReg r, []) := by
  cases r <;> rfl

/-- INC (HL) and DEC (HL): one charged read and one charged write at HL, which leave the registers alone. -/
theorem stepMem_eq (f : Byte → Byte → Byte × Byte) (s : State) : stepMem f s =
    let x := memRead s.cpu.hl s
    let y := f x.1 s.cpu.f
    .next (finish 12 { memWrite s.cpu.hl y.1 x.2 with cpu := { s.cpu with f := y.2 } }) := by
  simp only [stepMem, setF, withCpu, memWrite_cpu]
  rfl

/-- A correction that is not made adds 0. -/
theorem daaAdd_eq (a : Byte) (h c : Bool) : daaAdd a h c =
    let high := c || decide (0x99 < a.toNat)
    (a + (if high then 0x60#8 else 0#8) + (if h || decide (0x09 < a.toNat % 16) then 0x06#8 else 0#8), high) := by
  simp only [daaAdd, add_ite, BitVec.add_zero]

/-- A correction that is not made takes 0 away. -/
theorem daaSub_eq (a : Byte) (h c : Bool) : daaSub a h c =
    (a - (if c then 0x60#8 else 0#8) - (if h then 0x06#8 else 0#8), c) := by
  cases c <;> cases h <;> simp [daaSub]

/-- DAA by the N flag: the corrections of a subtraction keep Cf, those of an addition set it with the high one. -/
theorem daa_eq (a f : Byte) : daa a f =
    let x := if flagN f then (daaSub a (flagH f) (flagC f)).1 else (daaAdd a (flagH f) (flagC f)).1
    (x, packFlags (decide (x = 0#8)) (flagN f) false
      (if flagN f then flagC f else flagC f || decide (0x99 < a.toNat))) := by
  unfold daa
  cases flagN f <;> rfl

/-- Settles O15: INC and DEC by their shared meanings, DAA by its two corrections; CPL, SCF and
CCF are their rules by definition. -/
theorem incDecDaaAndFlagInstructions : Obligations.IncDecDaaAndFlagInstructions := by
  refine ⟨⟨fun r => ⟨decode_incReg r, exec_incReg r⟩, fun r => ⟨decode_decReg r, exec_decReg r⟩,
    ⟨rfl, stepMem_eq inc8⟩, ⟨rfl, stepMem_eq dec8⟩⟩,
    ⟨rfl, fun s => ?_⟩, ⟨rfl, fun _ => rfl⟩, ⟨rfl, fun _ => rfl⟩, ⟨rfl, fun _ => rfl⟩⟩
  have hdaa := daa_eq s.cpu.a s.cpu.f
  rw [daaSub_eq, daaAdd_eq] at hdaa
  exact congrArg (fun x => complete 4 (setAF x s)) hdaa

end Sys2Proof.Machine
end

section
/-! PROOFS. The family of spec/44_rotate_shift_bit.md: the shift functions as numbers (R284), the rotates of A (R280 to
R283), the CB-prefixed rotates and shifts (R285 to R300), BIT, RES and SET (R301 to R306). -/

namespace Sys2Proof.Machine

/-! ### The shift functions as numbers (R284) -/

/-- Bit 7 of a byte says whether its number is at least 0x80. -/
theorem bit_seven (v : Byte) : bit v 7 = decide (0x80 ≤ v.toNat) :=
  BitVec.msb_eq_decide v

/-- A shift to the left leaves k zero bits, which a byte below 2^k fills without a carry. -/
theorem toNat_shiftLeft_or (v w : Byte) (k : Nat) (hk : k ≤ 8) (hw : w.toNat < 2 ^ k) :
    (v <<< k ||| w).toNat = v.toNat * 2 ^ k % 256 + w.toNat := by
  have hshift : v.toNat * 2 ^ k % 2 ^ 8 = 2 ^ k * (v.toNat % 2 ^ (8 - k)) := by
    rw [← Nat.mul_mod_mul_left, ← pow_add, Nat.add_sub_cancel' hk, Nat.mul_comm]
  rw [BitVec.toNat_or, BitVec.toNat_shiftLeft, Nat.shiftLeft_eq, hshift, ← Nat.two_pow_add_eq_or_of_lt hw, ← hshift]
  rfl

/-- `Rl` is a doubling, with the carry-in at the bottom. -/
theorem rl_toNat (v : Byte) (c : Bool) : (rl v c).1.toNat = v.toNat * 2 % 256 + bitNat c := by
  cases c <;> exact toNat_shiftLeft_or v _ 1 (by decide) (by decide)

/-- A byte moved up by seven keeps its bit 0 alone, as bit 7. -/
theorem shiftLeft_seven (v : Byte) : v <<< 7 = if bit v 0 then 0x80#8 else 0#8 := by
  simp only [bit_zero, decide_eq_true_eq]
  split <;> bv_omega

/-- A byte moved down by seven is its bit 7 alone, as bit 0. -/
theorem ushiftRight_seven (v : Byte) : v >>> 7 = if bit v 7 then 0x01#8 else 0#8 := by
  simp only [bit_seven, decide_eq_true_eq]
  split <;> bv_omega

/-- `Rr` is a halving, with the carry-in at the top. -/
theorem rr_toNat (v : Byte) (c : Bool) : (rr v c).1.toNat = v.toNat / 2 + 128 * bitNat c := by
  have hhalf : (v >>> 1).toNat = v.toNat / 2 := Nat.shiftRight_eq_div_pow ..
  have hfit : (v >>> 1).toNat < 2 ^ 7 := by omega
  have htop : (rr v c).1 = BitVec.ofNat 8 (bitNat c) <<< 7 ||| v >>> 1 := by
    rw [BitVec.or_comm]
    cases c <;> rfl
  rw [htop, toNat_shiftLeft_or _ _ 7 (by decide) hfit, hhalf, Nat.add_comm]
  cases c <;> rfl

theorem rlc_eq_rl (v : Byte) : rlc v = rl v (bit v 7) := by rw [rlc, rl, ushiftRight_seven]

theorem rrc_eq_rr (v : Byte) : rrc v = rr v (bit v 0) := by rw [rrc, rr, shiftLeft_seven]

theorem sla_eq_rl (v : Byte) : sla v = rl v false :=
  congrArg (·, bit v 7) BitVec.or_zero.symm

theorem sra_eq_rr (v : Byte) : sra v = rr v (bit v 7) :=
  congrArg (v >>> 1 ||| ·, bit v 0) (BitVec.and_twoPow v 7)

theorem srl_eq_rr (v : Byte) : srl v = rr v false :=
  congrArg (·, bit v 0) BitVec.or_zero.symm

theorem swap_toNat (v : Byte) : (swap v).1.toNat = v.toNat % 16 * 16 + v.toNat / 16 := by
  have hhigh : (v >>> 4).toNat = v.toNat / 16 := Nat.shiftRight_eq_div_pow ..
  rw [swap, toNat_shiftLeft_or v _ 4 (by decide) (by omega), hhigh]
  omega

/-- Settles O18: `Rl` and `Rr` as numbers, and the five others but `Swap` as one of the two with a carry-in of their own. -/
theorem shiftsAndRotatesOfA : Obligations.ShiftsAndRotatesOfA := by
  refine ⟨fun v c => ?_, ⟨rfl, fun _ => rfl⟩, ⟨rfl, fun _ => rfl⟩, ⟨rfl, fun _ => rfl⟩, ⟨rfl, fun _ => rfl⟩⟩
  simp only [rotOp, rlc_eq_rl, rrc_eq_rr, sla_eq_rl, sra_eq_rr, srl_eq_rr, ← bit_seven, ← bit_zero]
  exact ⟨⟨rl_toNat .., rfl⟩, ⟨rr_toNat .., rfl⟩, ⟨rl_toNat .., rfl⟩, ⟨rr_toNat .., rfl⟩, ⟨rl_toNat .., rfl⟩,
    ⟨rr_toNat .., rfl⟩, ⟨rr_toNat .., rfl⟩, swap_toNat v, rfl⟩

/-! ### The CB-prefixed rotates and shifts (R151, R285 to R300) -/

theorem decode_rotReg (op : RotOp) (r : Reg8) :
    decode [0xCB#8, opcode (8 * rotNum op + r8Num r)] = .ok (rotReg op r, []) := by
  cases op <;> cases r <;> rfl

theorem decode_rotHl (op : RotOp) : decode [0xCB#8, opcode (8 * rotNum op + 6)] = .ok (rotHl op, []) := by
  cases op <;> rfl

/-- Settles O19: the register form, with the function its operation names. -/
theorem rotateRegisterForms : Obligations.RotateRegisterForms :=
  fun op r => ⟨decode_rotReg op r, fun s => by
    rw [exec_rotReg]
    cases op <;> rfl⟩

/-- The memory form: one charged read and one charged write at HL, which leave the registers alone. -/
theorem rotMem_eq (op : RotOp) (s : State) : rotMem op s =
    let v := memRead s.cpu.hl s
    let x := rotOp op v.1 (flagC s.cpu.f)
    .next (finish 16 { memWrite s.cpu.hl x.1 v.2 with cpu := { s.cpu with f := rotFlags x } }) := by
  simp only [rotMem, setF, withCpu, memWrite_cpu]
  rfl

/-- Settles O20: the memory form, with the function its operation names. -/
theorem rotateMemoryForms : Obligations.RotateMemoryForms :=
  fun op => ⟨decode_rotHl op, fun s => by
    rw [exec_rotHl, rotMem_eq]
    cases op <;> rfl⟩

/-! ### BIT, RES and SET (R151, R301 to R306) -/

theorem decode_bitReg (b : Sel3) (r : Reg8) :
    decode [0xCB#8, opcode (0x40 + 8 * b.num + r8Num r)] = .ok (bitReg b r, []) := by
  cases b <;> cases r <;> rfl

theorem decode_bitHl (b : Sel3) : decode [0xCB#8, opcode (0x46 + 8 * b.num)] = .ok (bitHl b, []) := by
  cases b <;> rfl

theorem decode_resReg (b : Sel3) (r : Reg8) :
    decode [0xCB#8, opcode (0x80 + 8 * b.num + r8Num r)] = .ok (resReg b r, []) := by
  cases b <;> cases r <;> rfl

theorem decode_resHl (b : Sel3) : decode [0xCB#8, opcode (0x86 + 8 * b.num)] = .ok (resHl b, []) := by
  cases b <;> rfl

theorem decode_setReg (b : Sel3) (r : Reg8) :
    decode [0xCB#8, opcode (0xC0 + 8 * b.num + r8Num r)] = .ok (setReg b r, []) := by
  cases b <;> cases r <;> rfl

theorem decode_setHl (b : Sel3) : decode [0xCB#8, opcode (0xC6 + 8 * b.num)] = .ok (setHl b, []) := by
  cases b <;> rfl

/-- Settles O21: the decoding and the meaning of each family, for every bit number and operand. -/
theorem bitInstructions : Obligations.BitInstructions :=
  fun b => ⟨fun r => ⟨decode_bitReg b r, exec_bitReg b r⟩, ⟨decode_bitHl b, exec_bitHl b⟩,
    fun r => ⟨decode_resReg b r, exec_resReg b r⟩, ⟨decode_resHl b, exec_resHl b⟩,
    fun r => ⟨decode_setReg b r, exec_setReg b r⟩, ⟨decode_setHl b, exec_setHl b⟩⟩

end Sys2Proof.Machine
end

section
/-! PROOFS. The family of spec/45_control.md: jumps, calls and returns (R310 to R325). -/

namespace Sys2Proof.Machine

/-! ### The bytes of the control families (R144, R313, R314, R317, R321, R325) -/

theorem decode_jpCond (cc : Cond) (lo hi : Byte) :
    decode [opcode (0xC2 + 8 * ccNum cc), lo, hi] = .ok (jpCond cc (cat hi lo), []) := by
  cases cc <;> rfl

theorem decode_jrCond (cc : Cond) (e : Byte) :
    decode [opcode (0x20 + 8 * ccNum cc), e] = .ok (jrCond cc e, []) := by
  cases cc <;> rfl

theorem decode_callCond (cc : Cond) (lo hi : Byte) :
    decode [opcode (0xC4 + 8 * ccNum cc), lo, hi] = .ok (callCond cc (cat hi lo), []) := by
  cases cc <;> rfl

theorem decode_retCond (cc : Cond) : decode [opcode (0xC0 + 8 * ccNum cc)] = .ok (retCond cc, []) := by
  cases cc <;> rfl

theorem decode_rstTo (t : Sel3) : decode [opcode (0xC7 + 8 * t.num)] = .ok (rstTo t, []) := by
  cases t <;> rfl

/-! ### Jumps (R310 to R315) -/

/-- Either way a conditional instruction answers the next state; the condition chooses the effect and the count (R310). -/
theorem whenCond_eq (cc : Cond) (c c' : Nat) (f : State → State) (s : State) : whenCond cc c c' f s =
    .next (if condHolds cc s.cpu.f then finish c (f s) else finish c' s) :=
  (apply_ite Host.Outcome.next ..).symm

/-- Settles O22: each condition is a flag or its negation, and each jump sets PC, a conditional one by `whenCond_eq`. -/
theorem jumps : Obligations.Jumps :=
  ⟨fun _ => ⟨rfl, rfl, rfl, rfl⟩, fun _ _ => ⟨rfl, fun _ => rfl⟩, fun _ => ⟨rfl, fun _ => rfl⟩,
    fun cc lo hi => ⟨decode_jpCond cc lo hi, fun s => (exec_jpCond cc _ s).trans (whenCond_eq ..)⟩,
    fun cc e => ⟨decode_jrCond cc e, fun s => (exec_jrCond cc e s).trans (whenCond_eq ..)⟩,
    rfl, fun _ => rfl⟩

/-! ### Calls and returns (R316 to R325) -/

/-- A call: PC is pushed as `push16_eq` says, then replaced by the target. -/
theorem callTo_eq (a : Word) (s : State) : callTo a s =
    let s1 := memWrite (s.cpu.sp - 1#16) (hiByte s.cpu.pc) { s with cpu := { s.cpu with sp := s.cpu.sp - 1#16 } }
    let s2 := memWrite (s.cpu.sp - 2#16) (loByte s.cpu.pc) { s1 with cpu := { s.cpu with sp := s.cpu.sp - 2#16 } }
    { s2 with cpu := { s.cpu with sp := s.cpu.sp - 2#16, pc := a } } := by
  rw [callTo, setPc, withCpu, push16_eq, memWrite_cpu]

/-- A return: the low byte of PC comes from SP, then the high byte from SP + 1. -/
theorem popPc_eq (s : State) : popPc s =
    let lo := memRead s.cpu.sp s
    let hi := memRead (s.cpu.sp + 1#16) { lo.2 with cpu := { s.cpu with sp := s.cpu.sp + 1#16 } }
    { hi.2 with cpu := { s.cpu with sp := s.cpu.sp + 2#16, pc := cat hi.1 lo.1 } } := by
  have hsp : s.cpu.sp + 1#16 + 1#16 = s.cpu.sp + 2#16 := BitVec.add_assoc ..
  simp only [popPc, setPc, withCpu, pop16_cpu, hsp]
  rfl

/-- Settles O23: every call has the effect `callTo_eq` gives and every return the one `popPc_eq` gives. -/
theorem callsAndReturns : Obligations.CallsAndReturns := by
  refine ⟨?_, ?_⟩
  · intro call
    have hcall : call = callTo := (funext₂ callTo_eq).symm
    rw [hcall]
    exact ⟨fun _ _ => ⟨rfl, fun _ => rfl⟩,
      fun cc lo hi => ⟨decode_callCond cc lo hi, fun s => (exec_callCond cc _ s).trans (whenCond_eq ..)⟩,
      fun t => ⟨decode_rstTo t, exec_rstTo t⟩⟩
  · intro pop
    have hpop : pop = popPc := (funext popPc_eq).symm
    rw [hpop]
    exact ⟨⟨rfl, fun _ => rfl⟩,
      fun cc => ⟨decode_retCond cc, fun s => (exec_retCond cc s).trans (whenCond_eq ..)⟩,
      rfl, fun _ => rfl⟩

end Sys2Proof.Machine
end

section
/-! PROOFS. The family of spec/46_system.md: NOP, STOP, DI, EI and the unassigned bytes (R330, R332 to R336). -/

namespace Sys2Proof.Machine

/-- Settles O7: the byte is of the table (R332) and the meaning of STOP refuses whatever the state. -/
theorem stopIsRefused : Obligations.StopIsRefused :=
  fun n _ => ⟨Laws.RoundTrip.stop n, rfl⟩

/-! ### The interrupt latch (R333, R334) -/

/-- EI acts on the registers alone: nothing with IME set, else the latch or IME by `EI_DELAY` (R334). -/
theorem enableInterrupts_eq (s : State) : enableInterrupts s = { s with cpu :=
    if s.cpu.ime then s.cpu
    else if s.par.eiDelay then { s.cpu with eiPending := true }
    else { s.cpu with ime := true } } := by
  unfold enableInterrupts
  cases s.cpu.ime
  case true => rfl
  case false => cases s.par.eiDelay <;> rfl

/-- An instruction that starts armed ends with the latch clear and, unless it is DI, with IME set (R334). -/
theorem applyArmed_eq (armed : Bool) (i : Instr) (s : State) : applyArmed armed i s =
    if armed then
      { s with cpu := { s.cpu with eiPending := false, ime := if i = .di then s.cpu.ime else true } }
    else s := rfl

/-! ### Instructions without an effect (R330, R336) -/

/-- An instruction whose meaning is to spend its four cycles leaves everything else as it was. -/
theorem runs_withoutEffect {i : Instr} (hdecode : decode (encode i) = .ok (i, []))
    (hexec : ∀ s, exec i s = complete 4 s) : Runs (encode i) i 4 fun s => s :=
  ⟨hdecode, hexec⟩

/-- Settles O24: EI by `enableInterrupts_eq`, the armed latch by `applyArmed_eq`, NOP and the eleven unassigned bytes by
`runs_withoutEffect`. -/
theorem nopAndInterruptControl : Obligations.NopAndInterruptControl := by
  have hei (s : State) : exec .ei s = complete 4 (enableInterrupts s) := rfl
  refine ⟨runs_withoutEffect Laws.RoundTrip.nop fun _ => rfl, ⟨Laws.RoundTrip.di, fun _ => rfl⟩,
    ⟨Laws.RoundTrip.ei, fun s => ?_⟩, applyArmed_eq, fun _ => rfl, ?_⟩
  · rw [hei, enableInterrupts_eq, complete]
  · exact ⟨runs_withoutEffect Laws.RoundTrip.unassigned_d3 fun _ => rfl,
      runs_withoutEffect Laws.RoundTrip.unassigned_db fun _ => rfl,
      runs_withoutEffect Laws.RoundTrip.unassigned_dd fun _ => rfl,
      runs_withoutEffect Laws.RoundTrip.unassigned_e3 fun _ => rfl,
      runs_withoutEffect Laws.RoundTrip.unassigned_e4 fun _ => rfl,
      runs_withoutEffect Laws.RoundTrip.unassigned_eb fun _ => rfl,
      runs_withoutEffect Laws.RoundTrip.unassigned_ec fun _ => rfl,
      runs_withoutEffect Laws.RoundTrip.unassigned_ed fun _ => rfl,
      runs_withoutEffect Laws.RoundTrip.unassigned_f4 fun _ => rfl,
      runs_withoutEffect Laws.RoundTrip.unassigned_fc fun _ => rfl,
      runs_withoutEffect Laws.RoundTrip.unassigned_fd fun _ => rfl⟩

end Sys2Proof.Machine
end

section
/-! PROOFS. The family of spec/60_exceptions.md, first part: the timer (R360, R361). -/

namespace Sys2Proof.Machine

/-! ### The timer (R360, R361) -/

/-- One increment of TIMA, on TIMA and the interrupt registers, where TMA is `tma` (R361). -/
def timaStep (tma : Byte) (y : Byte × Irq) : Byte × Irq :=
  if y.1 = 0xFF#8 then (tma, y.2.raise .timer) else (y.1 + 1#8, y.2)

theorem timaIncrement_eq (x : Timer × Irq) : timaIncrement x =
    ({ x.1 with tima := (timaStep x.1.tma (x.1.tima, x.2)).1 }, (timaStep x.1.tma (x.1.tima, x.2)).2) := by
  unfold timaIncrement timaStep
  split <;> rfl

/-- Increments read and change TIMA and IF alone; TMA stays. -/
theorem iterate_timaIncrement (k : Nat) (x : Timer × Irq) : iterate timaIncrement k x =
    ({ x.1 with tima := (iterate (timaStep x.1.tma) k (x.1.tima, x.2)).1 },
      (iterate (timaStep x.1.tma) k (x.1.tima, x.2)).2) := by
  induction k generalizing x with
  | zero => rfl
  | succ k ih => rw [iterate, ih, timaIncrement_eq]; rfl

theorem timerTicks_of_off (n : Nat) (x : Timer × Irq) (h : bit x.1.tac 2 = false) : timerTicks n x =
    ({ x.1 with divCounter := x.1.divCounter + BitVec.ofNat 16 n }, x.2) :=
  if_neg (by simp [h])

/-- With the timer on: one increment for each whole period, and the rest of the cycles is kept. -/
theorem timerTicks_of_on (n : Nat) (x : Timer × Irq) (h : bit x.1.tac 2 = true) : timerTicks n x =
    let y := iterate (timaStep x.1.tma) ((x.1.timaAcc + n) / timerPeriod x.1.tac) (x.1.tima, x.2)
    ({ x.1 with
        divCounter := x.1.divCounter + BitVec.ofNat 16 n
        timaAcc := (x.1.timaAcc + n) % timerPeriod x.1.tac
        tima := y.1 }, y.2) :=
  (if_pos h).trans (iterate_timaIncrement ..)

/-- The periods of m cycles and then of n more, counted from what the first count left over. -/
theorem div_add_mod_add_div (a n p : Nat) (hp : 0 < p) : a / p + (a % p + n) / p = (a + n) / p := by
  rw [← Nat.mul_add_div hp, ← Nat.add_assoc, Nat.div_add_mod]

theorem timerTicks_add (m n : Nat) (x : Timer × Irq) : timerTicks n (timerTicks m x) = timerTicks (m + n) x := by
  cases h : bit x.1.tac 2 with
  | false =>
    rw [timerTicks_of_off m x h, timerTicks_of_off (m + n) x h, timerTicks_of_off n _ (by exact h)]
    simp only [BitVec.ofNat_add, BitVec.add_assoc]
  | true =>
    rw [timerTicks_of_on m x h, timerTicks_of_on (m + n) x h, timerTicks_of_on n _ (by exact h)]
    simp only [Prod.mk.eta, ← iterate_add, div_add_mod_add_div _ _ _ (timerPeriod_pos _), Nat.mod_add_mod,
      BitVec.ofNat_add, BitVec.add_assoc, ← Nat.add_assoc]

/-- Settles O40. -/
theorem timerAdvanceSplits : Obligations.TimerAdvanceSplits := fun m n s =>
  congrArg (fun x : Timer × Irq => { s with timer := x.1, irq := x.2 }) (timerTicks_add m n (s.timer, s.irq))

/-- Settles O39: with the timer on the increments are those of `timaStep`, as many as the quotient. -/
theorem timerAdvances : Obligations.TimerAdvances := by
  intro n t q x period increment
  have hperiod : period = timerPeriod t.tac := rfl
  have hincrement : increment = timaStep t.tma := rfl
  obtain ⟨htma, htac, -, -⟩ := timerTicks_frame n (t, q)
  refine ⟨?_, htma, htac, fun hoff => ?_, fun hon => ⟨(t.timaAcc + n) / period, ?_⟩⟩
  · rw [timerTicks_divCounter, BitVec.toNat_add, BitVec.toNat_ofNat, Nat.add_mod_mod]
  · rw [show x = _ from timerTicks_of_off n (t, q) hoff]
    exact ⟨rfl, rfl, rfl⟩
  · rw [show x = _ from timerTicks_of_on n (t, q) hon, hperiod, hincrement]
    exact ⟨(Nat.div_add_mod' ..).symm, Nat.mod_lt _ (timerPeriod_pos _), rfl⟩

end Sys2Proof.Machine
end

section
/-! PROOFS. The family of spec/60_exceptions.md, second part: what every instruction does, as charged accesses, a
change of registers and a count of cycles (R371), and that none but STOP ends in anything but a next state (R332,
R350). -/

namespace Sys2Proof.Machine

/-! ### How many bytes an instruction of a family has (R147) -/

@[simp] theorem length_ldRegReg (rd rs : Reg8) : (encode (ldRegReg rd rs)).length = 1 := by
  cases rd <;> cases rs <;> rfl
@[simp] theorem length_ldRegImm (r : Reg8) (n : Byte) : (encode (ldRegImm r n)).length = 2 := by cases r <;> rfl
@[simp] theorem length_ldRegHl (r : Reg8) : (encode (ldRegHl r)).length = 1 := by cases r <;> rfl
@[simp] theorem length_ldHlReg (r : Reg8) : (encode (ldHlReg r)).length = 1 := by cases r <;> rfl
@[simp] theorem length_ldPairImm (p : Reg16) (nn : Word) : (encode (ldPairImm p nn)).length = 3 := by cases p <;> rfl
@[simp] theorem length_pushPair (p : StackPair) : (encode (pushPair p)).length = 1 := by cases p <;> rfl
@[simp] theorem length_popPair (p : StackPair) : (encode (popPair p)).length = 1 := by cases p <;> rfl
@[simp] theorem length_aluReg (op : AluOp) (r : Reg8) : (encode (aluReg op r)).length = 1 := by
  cases op <;> cases r <;> rfl
@[simp] theorem length_aluHl (op : AluOp) : (encode (aluHl op)).length = 1 := by cases op <;> rfl
@[simp] theorem length_aluImm (op : AluOp) (n : Byte) : (encode (aluImm op n)).length = 2 := by cases op <;> rfl
@[simp] theorem length_incReg (r : Reg8) : (encode (incReg r)).length = 1 := by cases r <;> rfl
@[simp] theorem length_decReg (r : Reg8) : (encode (decReg r)).length = 1 := by cases r <;> rfl
@[simp] theorem length_addHlPair (p : Reg16) : (encode (addHlPair p)).length = 1 := by cases p <;> rfl
@[simp] theorem length_incPair (p : Reg16) : (encode (incPair p)).length = 1 := by cases p <;> rfl
@[simp] theorem length_decPair (p : Reg16) : (encode (decPair p)).length = 1 := by cases p <;> rfl
@[simp] theorem length_rotReg (op : RotOp) (r : Reg8) : (encode (rotReg op r)).length = 2 := by
  cases op <;> cases r <;> rfl
@[simp] theorem length_rotHl (op : RotOp) : (encode (rotHl op)).length = 2 := by cases op <;> rfl
@[simp] theorem length_bitReg (b : Sel3) (r : Reg8) : (encode (bitReg b r)).length = 2 := by
  cases b <;> cases r <;> rfl
@[simp] theorem length_bitHl (b : Sel3) : (encode (bitHl b)).length = 2 := by cases b <;> rfl
@[simp] theorem length_resReg (b : Sel3) (r : Reg8) : (encode (resReg b r)).length = 2 := by
  cases b <;> cases r <;> rfl
@[simp] theorem length_resHl (b : Sel3) : (encode (resHl b)).length = 2 := by cases b <;> rfl
@[simp] theorem length_setReg (b : Sel3) (r : Reg8) : (encode (setReg b r)).length = 2 := by
  cases b <;> cases r <;> rfl
@[simp] theorem length_setHl (b : Sel3) : (encode (setHl b)).length = 2 := by cases b <;> rfl
@[simp] theorem length_jpCond (cc : Cond) (nn : Word) : (encode (jpCond cc nn)).length = 3 := by cases cc <;> rfl
@[simp] theorem length_jrCond (cc : Cond) (e : Byte) : (encode (jrCond cc e)).length = 2 := by cases cc <;> rfl
@[simp] theorem length_callCond (cc : Cond) (nn : Word) : (encode (callCond cc nn)).length = 3 := by cases cc <;> rfl
@[simp] theorem length_retCond (cc : Cond) : (encode (retCond cc)).length = 1 := by cases cc <;> rfl
@[simp] theorem length_rstTo (t : Sel3) : (encode (rstTo t)).length = 1 := by cases t <;> rfl

/-! ### Instructions that store nothing -/

/-- What lets an interrupt in: IME and the EI latch (R24, R27). -/
def Cpu.arming (u : Cpu) : Bool × Bool := (u.ime, u.eiPending)

/-- Where the registers v have IME or the EI latch set, u have it set too. -/
def ArmsNothing (u v : Cpu) : Prop := (v.ime = true → u.ime = true) ∧ (v.eiPending = true → u.eiPending = true)

theorem armsNothing_of_arming_eq {u v : Cpu} (h : v.arming = u.arming) : ArmsNothing u v := by
  obtain ⟨hime, hlatch⟩ := Prod.mk.inj h
  exact ⟨fun hv => hime ▸ hv, fun hv => hlatch ▸ hv⟩

theorem ArmsNothing.trans {u v w : Cpu} (h : ArmsNothing u v) (k : ArmsNothing v w) : ArmsNothing u w :=
  ⟨fun hw => h.1 (k.1 hw), fun hw => h.2 (k.2 hw)⟩

/-- The instruction i arms nothing unless it is EI or RETI (R323, R334). -/
def ArmsByEiOrReti (i : Instr) (u v : Cpu) : Prop := i ≠ .ei → i ≠ .reti → ArmsNothing u v

theorem armsByEiOrReti_of_arming_eq {i : Instr} {u v : Cpu} (h : v.arming = u.arming) : ArmsByEiOrReti i u v :=
  fun _ _ => armsNothing_of_arming_eq h

theorem set8_arming (r : Reg8) (v : Byte) (u : Cpu) : (u.set8 r v).arming = u.arming := by cases r <;> rfl

theorem set16_arming (p : Reg16) (v : Word) (u : Cpu) : (u.set16 p v).arming = u.arming := by cases p <;> rfl

theorem setStack_arming (p : StackPair) (v : Word) (u : Cpu) : (u.setStack p v).arming = u.arming := by cases p <;> rfl

/-- The instruction reads k bytes, changes registers alone, and takes c cycles, which hold its fetches and its reads. -/
structure ReadsOnly (i : Instr) (s : State) (k c : Nat) : Prop where
  runs : ∃ u, exec i s = .next (finish c { iterate busTick k s with cpu := u }) ∧ ArmsByEiOrReti i s.cpu u
  cycles : 4 * ((encode i).length + k) ≤ c

theorem readsOnly_of_exec {i : Instr} {s : State} {u : Cpu} (k c : Nat)
    (hexec : exec i s = .next (finish c { iterate busTick k s with cpu := u }))
    (harming : u.arming = s.cpu.arming := by rfl)
    (hcycles : 4 * ((encode i).length + k) ≤ c := by simp) : ∃ k c, ReadsOnly i s k c :=
  ⟨k, c, ⟨u, hexec, armsByEiOrReti_of_arming_eq harming⟩, hcycles⟩

/-- A conditional instruction that stores nothing runs its effect or nothing. -/
theorem readsOnly_of_whenCond {i : Instr} {s : State} {cc : Cond} {f : State → State} {u : Cpu} (k c c' : Nat)
    (hexec : exec i s = whenCond cc c c' f s) (heff : f s = { iterate busTick k s with cpu := u })
    (harming : u.arming = s.cpu.arming)
    (hc : 4 * ((encode i).length + k) ≤ c) (hc' : 4 * (encode i).length ≤ c') : ∃ k c, ReadsOnly i s k c := by
  rw [whenCond_eq] at hexec
  by_cases hcc : condHolds cc s.cpu.f = true
  · rw [if_pos hcc, heff] at hexec
    exact readsOnly_of_exec k c hexec harming hc
  · rw [if_neg hcc] at hexec
    exact readsOnly_of_exec 0 c' (u := s.cpu) hexec rfl hc'

theorem readsOnly_of_storesNothing {i : Instr} (s : State) (h : StoresNothing i) : ∃ k c, ReadsOnly i s k c := by
  cases h with
  | ldRegReg rd rs => exact readsOnly_of_exec 0 4 (exec_ldRegReg rd rs s) (set8_arming ..)
  | ldRegImm r n => exact readsOnly_of_exec 0 8 (exec_ldRegImm r n s) (set8_arming ..)
  | ldRegHl r => exact readsOnly_of_exec 1 8 (exec_ldRegHl r s) (set8_arming ..)
  | ldPairImm p nn => exact readsOnly_of_exec 0 12 (exec_ldPairImm p nn s) (set16_arming ..)
  | pop p => exact readsOnly_of_exec 2 12 (exec_popPair p s) (setStack_arming ..)
  | aluReg op r => exact readsOnly_of_exec 0 4 (exec_aluReg op r s)
  | aluHl op => exact readsOnly_of_exec 1 8 (exec_aluHl op s)
  | aluImm op n => exact readsOnly_of_exec 0 8 (exec_aluImm op n s)
  | incReg r => exact readsOnly_of_exec 0 4 (exec_incReg r s) (set8_arming ..)
  | decReg r => exact readsOnly_of_exec 0 4 (exec_decReg r s) (set8_arming ..)
  | addHl p => exact readsOnly_of_exec 0 8 (exec_addHlPair p s)
  | incPair p => exact readsOnly_of_exec 0 8 (exec_incPair p s) (set16_arming ..)
  | decPair p => exact readsOnly_of_exec 0 8 (exec_decPair p s) (set16_arming ..)
  | rotReg op r => exact readsOnly_of_exec 0 8 (exec_rotReg op r s) (set8_arming ..)
  | bitReg b r => exact readsOnly_of_exec 0 8 (exec_bitReg b r s)
  | bitHl b => exact readsOnly_of_exec 1 12 (exec_bitHl b s)
  | resReg b r => exact readsOnly_of_exec 0 8 (exec_resReg b r s) (set8_arming ..)
  | setReg b r => exact readsOnly_of_exec 0 8 (exec_setReg b r s) (set8_arming ..)
  | jpCond cc nn => exact readsOnly_of_whenCond 0 16 12 (exec_jpCond cc nn s) rfl rfl (by simp) (by simp)
  | jrCond cc e => exact readsOnly_of_whenCond 0 12 8 (exec_jrCond cc e s) rfl rfl (by simp) (by simp)
  | retCond cc => exact readsOnly_of_whenCond 2 20 8 (exec_retCond cc s) rfl rfl (by simp) (by simp)
  | reti => exact ⟨2, 16, ⟨_, rfl, fun _ h => absurd rfl h⟩, Nat.le_of_ble_eq_true rfl⟩
  | ei =>
    have hexec : exec .ei s = complete 4 _ := congrArg (complete 4) (enableInterrupts_eq s)
    exact ⟨0, 4, ⟨_, hexec, fun h => absurd rfl h⟩, Nat.le_of_ble_eq_true rfl⟩
  | di =>
    have hoff {p : Prop} (h : false = true) : p := absurd h Bool.false_ne_true
    exact ⟨0, 4, ⟨_, rfl, fun _ _ => ⟨hoff, hoff⟩⟩, Nat.le_of_ble_eq_true rfl⟩
  | halt =>
    refine readsOnly_of_exec 0 4 (congrArg (complete 4) (haltEffect_eq s)) ?_ (Nat.le_of_ble_eq_true rfl)
    split <;> rfl
  | ldABc | ldADe | ldhAC | ldAHli | ldAHld => exact readsOnly_of_exec 1 8 rfl rfl (Nat.le_of_ble_eq_true rfl)
  | ldANn nn => exact readsOnly_of_exec 1 16 rfl rfl (Nat.le_of_ble_eq_true rfl)
  | ldhAN n => exact readsOnly_of_exec 1 12 rfl rfl (Nat.le_of_ble_eq_true rfl)
  | ldSpHl => exact readsOnly_of_exec 0 8 rfl rfl (Nat.le_of_ble_eq_true rfl)
  | ldHlSp e | jr e => exact readsOnly_of_exec 0 12 rfl rfl (Nat.le_of_ble_eq_true rfl)
  | addSp e | jp nn => exact readsOnly_of_exec 0 16 rfl rfl (Nat.le_of_ble_eq_true rfl)
  | ret => exact readsOnly_of_exec 2 16 rfl rfl (Nat.le_of_ble_eq_true rfl)
  | _ => exact readsOnly_of_exec 0 4 rfl rfl (Nat.le_of_ble_eq_true rfl)

/-! ### Instructions that store -/

/-- The instruction reads k bytes, stores v at a, changes registers, and takes the cycles of its fetches and accesses. -/
def StoresByte (i : Instr) (s : State) (a : Word) (k : Nat) (v : Byte) : Prop :=
  ∃ u,
    exec i s = .next (finish (4 * ((encode i).length + k + 1)) { memWrite a v (iterate busTick k s) with cpu := u }) ∧
    ArmsByEiOrReti i s.cpu u

theorem storesByte_of_exec {i : Instr} {s : State} {a : Word} {v : Byte} {u : Cpu} (k c : Nat)
    (hexec : exec i s = .next (finish c { memWrite a v (iterate busTick k s) with cpu := u }))
    (hcycles : c = 4 * ((encode i).length + k + 1)) (harming : u.arming = s.cpu.arming) :
    ∃ k v, StoresByte i s a k v :=
  ⟨k, v, u, hcycles ▸ hexec, armsByEiOrReti_of_arming_eq harming⟩

theorem iterate_busTick_cpu (k : Nat) (s : State) : (iterate busTick k s).cpu = s.cpu :=
  iterate_keeps (fun t => t.cpu = s.cpu) busTick (fun t h => (busTick_cpu t).trans h) k s rfl

/-- An instruction that ends with its store changes no other register. -/
theorem storesByte_of_memWrite {i : Instr} {s : State} {a : Word} {v : Byte} (k c : Nat)
    (hexec : exec i s = complete c (memWrite a v (iterate busTick k s)))
    (hcycles : c = 4 * ((encode i).length + k + 1)) : ∃ k v, StoresByte i s a k v := by
  refine storesByte_of_exec (u := (memWrite a v (iterate busTick k s)).cpu) k c hexec hcycles ?_
  rw [memWrite_cpu, iterate_busTick_cpu]

theorem storesByte_of_storesAt {i : Instr} {s : State} {a : Word} (h : StoresAt s i a) :
    ∃ k v, StoresByte i s a k v := by
  cases h with
  | ldHlReg r => exact storesByte_of_memWrite 0 8 (exec_ldHlReg r s) (by simp)
  | resHl b => exact storesByte_of_memWrite 1 16 (exec_resHl b s) (by simp)
  | setHl b => exact storesByte_of_memWrite 1 16 (exec_setHl b s) (by simp)
  | rotHl op => exact storesByte_of_exec 1 16 ((exec_rotHl op s).trans (rotMem_eq op s)) (by simp) rfl
  | ldHlImm n => exact storesByte_of_memWrite 0 12 rfl rfl
  | ldBcA | ldDeA | ldhCA => exact storesByte_of_memWrite 0 8 rfl rfl
  | ldNnA nn => exact storesByte_of_memWrite 0 16 rfl rfl
  | ldhNA n => exact storesByte_of_memWrite 0 12 rfl rfl
  | ldHliA => exact storesByte_of_exec 0 8 (storeAStep_eq 1#16 s) rfl (set16_arming .hl _ _)
  | ldHldA => exact storesByte_of_exec 0 8 (storeAStep_eq (-1#16) s) rfl (set16_arming .hl _ _)
  | incHl => exact storesByte_of_exec 1 12 (stepMem_eq inc8 s) rfl rfl
  | decHl => exact storesByte_of_exec 1 12 (stepMem_eq dec8 s) rfl rfl

/-- The instruction pushes v and changes registers, or it is conditional and does nothing; it takes c cycles. -/
inductive PushesWord (i : Instr) (s : State) (c : Nat) : Prop
  | taken (v : Word) (u : Cpu) (runs : exec i s = .next (finish c { push16 v s with cpu := u }))
      (cycles : 4 * ((encode i).length + 2) ≤ c) (arms : ArmsByEiOrReti i s.cpu u)
  | skipped (runs : exec i s = .next (finish c s)) (cycles : 4 * (encode i).length ≤ c)

theorem push16_arming (v : Word) (s : State) : (push16 v s).cpu.arming = s.cpu.arming := by
  rw [push16_cpu]
  rfl

theorem pushesWord_of_pushes {i : Instr} (s : State) (h : Pushes i) : ∃ c, PushesWord i s c := by
  have harming (v : Word) : ArmsByEiOrReti i s.cpu (push16 v s).cpu := armsByEiOrReti_of_arming_eq (push16_arming v s)
  have htarget (v a : Word) : ArmsByEiOrReti i s.cpu { (push16 v s).cpu with pc := a } :=
    armsByEiOrReti_of_arming_eq (push16_arming v s)
  cases h with
  | push p => exact ⟨16, .taken _ _ (exec_pushPair p s) (by simp) (harming _)⟩
  | call nn => exact ⟨24, .taken _ _ rfl (Nat.le_of_ble_eq_true rfl) (htarget _ nn)⟩
  | rst t => exact ⟨16, .taken _ _ (exec_rstTo t s) (by simp) (htarget _ _)⟩
  | callCond cc nn =>
    have hexec := (exec_callCond cc nn s).trans (whenCond_eq ..)
    by_cases hcc : condHolds cc s.cpu.f = true
    · rw [if_pos hcc] at hexec
      exact ⟨24, .taken _ _ hexec (by simp) (htarget _ nn)⟩
    · rw [if_neg hcc] at hexec
      exact ⟨12, .skipped hexec (by simp)⟩

/-! ### Every instruction but STOP completes (R332, R350) -/

/-- Every instruction stores nothing, a byte or a word, or is STOP. -/
theorem storing_cases (i : Instr) (s : State) : StoresNothing i ∨ (∃ a, StoresAt s i a) ∨ Pushes i ∨
    (∃ nn, i = .ld_mNn_sp nn) ∨ ∃ n, i = .stop n := by
  cases form_of i
  case stop n => exact .inr (.inr (.inr (.inr ⟨n, rfl⟩)))
  case ld_mNn_sp nn => exact .inr (.inr (.inr (.inl ⟨nn, rfl⟩)))
  case pushPair p => exact .inr (.inr (.inl (.push p)))
  case call_nn nn => exact .inr (.inr (.inl (.call nn)))
  case callCond cc nn => exact .inr (.inr (.inl (.callCond cc nn)))
  case rstTo t => exact .inr (.inr (.inl (.rst t)))
  case ldHlReg r => exact .inr (.inl ⟨_, .ldHlReg r⟩)
  case rotHl op => exact .inr (.inl ⟨_, .rotHl op⟩)
  case resHl b => exact .inr (.inl ⟨_, .resHl b⟩)
  case setHl b => exact .inr (.inl ⟨_, .setHl b⟩)
  case ld_mHl_n n => exact .inr (.inl ⟨_, .ldHlImm n⟩)
  case ld_mBc_a => exact .inr (.inl ⟨_, .ldBcA⟩)
  case ld_mDe_a => exact .inr (.inl ⟨_, .ldDeA⟩)
  case ld_mNn_a nn => exact .inr (.inl ⟨_, .ldNnA nn⟩)
  case ldh_mN_a n => exact .inr (.inl ⟨_, .ldhNA n⟩)
  case ldh_mC_a => exact .inr (.inl ⟨_, .ldhCA⟩)
  case ld_mHli_a => exact .inr (.inl ⟨_, .ldHliA⟩)
  case ld_mHld_a => exact .inr (.inl ⟨_, .ldHldA⟩)
  case inc_mHl => exact .inr (.inl ⟨_, .incHl⟩)
  case dec_mHl => exact .inr (.inl ⟨_, .decHl⟩)
  all_goals exact .inl (by constructor)

theorem storeSp_cpu (nn : Word) (s : State) : (storeSp nn s).cpu = s.cpu := by
  simp only [storeSp, memWrite_cpu]

/-- An instruction other than STOP answers a next state, charges at least its fetches, and arms no interrupt unless it
is EI or RETI. -/
theorem exec_completes (i : Instr) (s : State) (h : ∀ n, i ≠ .stop n) : ∃ t, exec i s = .next t ∧
    4 * (encode i).length ≤ t.charged ∧ ArmsByEiOrReti i s.cpu t.cpu := by
  obtain hnone | ⟨a, hbyte⟩ | hpush | ⟨nn, rfl⟩ | ⟨n, rfl⟩ := storing_cases i s
  · obtain ⟨k, c, ⟨u, hexec, harms⟩, hcycles⟩ := readsOnly_of_storesNothing s hnone
    exact ⟨_, hexec, by rw [finish_charged]; omega, harms⟩
  · obtain ⟨k, v, u, hexec, harms⟩ := storesByte_of_storesAt hbyte
    exact ⟨_, hexec, by rw [finish_charged]; omega, harms⟩
  · obtain ⟨c, ⟨v, u, hexec, hcycles, harms⟩ | ⟨hexec, hcycles⟩⟩ := pushesWord_of_pushes s hpush
    · exact ⟨_, hexec, by rw [finish_charged]; omega, harms⟩
    · exact ⟨_, hexec, hcycles, armsByEiOrReti_of_arming_eq rfl⟩
  · exact ⟨finish 20 (storeSp nn s), rfl, Nat.le_of_ble_eq_true rfl,
      armsByEiOrReti_of_arming_eq (congrArg Cpu.arming (storeSp_cpu nn s))⟩
  · exact absurd rfl (h n)

theorem exec_next_or_stop (i : Instr) (s : State) :
    (∃ t, exec i s = .next t) ∨ exec i s = .refused .stopNotSpecified := by
  by_cases h : ∃ n, i = .stop n
  · obtain ⟨n, rfl⟩ := h
    exact .inr rfl
  · obtain ⟨t, ht, -⟩ := exec_completes i s (not_exists.1 h)
    exact .inl ⟨t, ht⟩

/-- A change of the next state changes no refusal. -/
theorem mapNext_next_or_stop (f : State → State) {x : Result}
    (h : (∃ t, x = .next t) ∨ x = .refused .stopNotSpecified) :
    (∃ t, mapNext f x = .next t) ∨ mapNext f x = .refused .stopNotSpecified := by
  obtain ⟨t, rfl⟩ | rfl := h
  · exact .inl ⟨f t, rfl⟩
  · exact .inr rfl

theorem iteration_next_or_stop (s : State) :
    (∃ t, iteration s = .next t) ∨ iteration s = .refused .stopNotSpecified := by
  cases hhalt : s.cpu.halted with
  | true => exact mapNext_next_or_stop _ (.inl ⟨_, cpuStep_of_halted s hhalt⟩)
  | false =>
    rw [iteration_of_fetched s hhalt _ _ rfl]
    exact mapNext_next_or_stop _ (exec_next_or_stop ..)

/-- Settles O6: STOP alone is refused by `exec`, and a step ends as the instruction it runs, if it runs one. -/
theorem onlyStopStops : Obligations.OnlyStopStops := by
  refine ⟨fun i s h => ?_, fun s => ?_⟩
  · obtain ⟨t, ht, -⟩ := exec_completes i s h
    exact ⟨t, ht⟩
  · by_cases hstop : s.port.runState = .stopRequested
    · exact .inl ⟨s, step_of_stopped s hstop⟩
    · rw [step_of_notStopped s hstop]
      split
      · exact iteration_next_or_stop _
      · exact .inl ⟨_, rfl⟩

end Sys2Proof.Machine
end

section
/-! PROOFS. The family of spec/60_exceptions.md, third part: every cycle an instruction takes reaches the timer (R371). -/

namespace Sys2Proof.Machine

/-! ### Stores and the timer (R33 to R36) -/

/-- The addresses of DIV, TIMA, TMA, TAC, IF and IE (R33 to R36). -/
def timerAddresses : List Word := [0xFF04#16, 0xFF05#16, 0xFF06#16, 0xFF07#16, 0xFF0F#16, 0xFFFF#16]

/-- The I/O registers of the timer and the interrupts; IE is none of the I/O region (R36). -/
def timerIoRegs : List IoReg := [.div, .tima, .tma, .tac, .irqFlag]

theorem ioRegAt_timer : ∀ off < 0x80, (ioRegAt off = .div → off = 0x04) ∧
    (ioRegAt off ∈ timerIoRegs → BitVec.ofNat 16 (0xFF00 + off) ∈ timerAddresses) := by
  decide

theorem ioWrite_divCounter (r : IoReg) (a : Nat) (v : Byte) (s : State) (h : r ≠ .div) :
    (ioWrite r a v s).timer.divCounter = s.timer.divCounter := by
  cases r
  case div => exact absurd rfl h
  case sc => unfold ioWrite writeSc; dsimp only; split <;> rfl
  case waveRam => unfold ioWrite; dsimp only; split <;> rfl
  all_goals rfl

theorem ioWrite_timer_irq (r : IoReg) (a : Nat) (v : Byte) (s : State) (h : r ∉ timerIoRegs) :
    (ioWrite r a v s).timer = s.timer ∧ (ioWrite r a v s).irq = s.irq := by
  cases r
  case div | tima | tma | tac | irqFlag => exact absurd (by decide) h
  case sc => unfold ioWrite writeSc; dsimp only; split <;> exact ⟨rfl, rfl⟩
  case waveRam => unfold ioWrite; dsimp only; split <;> exact ⟨rfl, rfl⟩
  all_goals exact ⟨rfl, rfl⟩

/-- A CPU write is dropped or routed (R85). -/
theorem cpuWrite_eq_or (a : Word) (v : Byte) (s : State) : cpuWrite a v s = s ∨ cpuWrite a v s = routeWrite a v s := by
  unfold cpuWrite
  split
  · exact .inl rfl
  · split
    · exact .inl rfl
    · exact .inr rfl

/-- A CPU write is the write of an I/O register, or it leaves the timer alone and, unless it is to IE, IF and IE. -/
theorem cpuWrite_timer_cases (a : Word) (v : Byte) (s : State) :
    ((cpuWrite a v s).timer = s.timer ∧ ((cpuWrite a v s).irq = s.irq ∨ a = 0xFFFF#16)) ∨
    ∃ off < 0x80, a.toNat = 0xFF00 + off ∧ cpuWrite a v s = ioWrite (ioRegAt off) a.toNat v s := by
  obtain h | h := cpuWrite_eq_or a v s
  · rw [h]
    exact .inl ⟨rfl, .inl rfl⟩
  · rw [h]
    cases hr : regionOf a.toNat
    case io =>
      have hrange := (regionOf_range _).1.1 hr
      refine .inr ⟨a.toNat - 0xFF00, by omega, by omega, ?_⟩
      simp only [routeWrite, hr]
      rfl
    case ie =>
      have hie := regionOf_ie _ hr
      have ha : a = 0xFFFF#16 := by bv_omega
      exact .inl ⟨by simp only [routeWrite, hr], .inr ha⟩
    all_goals simp [routeWrite, hr]

/-- A store outside the six registers leaves timer and interrupt registers alone. -/
theorem cpuWrite_timer_irq (a : Word) (v : Byte) (s : State) (h : a ∉ timerAddresses) :
    (cpuWrite a v s).timer = s.timer ∧ (cpuWrite a v s).irq = s.irq := by
  obtain ⟨ht, hq | rfl⟩ | ⟨off, hoff, ha, hio⟩ := cpuWrite_timer_cases a v s
  · exact ⟨ht, hq⟩
  · exact absurd (by decide) h
  · rw [hio]
    refine ioWrite_timer_irq _ _ v s fun hreg => h ?_
    have hword : a = BitVec.ofNat 16 (0xFF00 + off) := by rw [← ha, BitVec.ofNat_toNat, BitVec.setWidth_eq]
    exact hword ▸ (ioRegAt_timer off hoff).2 hreg

/-- A store elsewhere than to DIV leaves the divider alone. -/
theorem cpuWrite_divCounter (a : Word) (v : Byte) (s : State) (h : a ≠ 0xFF04#16) :
    (cpuWrite a v s).timer.divCounter = s.timer.divCounter := by
  obtain ⟨ht, -⟩ | ⟨off, hoff, ha, hio⟩ := cpuWrite_timer_cases a v s
  · rw [ht]
  · rw [hio]
    refine ioWrite_divCounter _ _ v s fun hreg => h ?_
    have := (ioRegAt_timer off hoff).1 hreg
    bv_omega

/-- A store to DIV that no transfer blocks clears the divider (R33). -/
theorem cpuWrite_div (v : Byte) (s : State) (h : dmaBlocks 0xFF04#16 s = false) :
    (cpuWrite 0xFF04#16 v s).timer.divCounter = 0#16 := by
  have hdma : ¬ dmaBlocks 0xFF04#16 s = true := by simp [h]
  have hppu : ¬ ppuBlocks 0xFF04#16 s = true := Bool.false_ne_true
  have hregion : regionOf (0xFF04#16).toNat = .io := by decide
  have hreg : ioRegOf (0xFF04#16).toNat = .div := by decide
  rw [cpuWrite, if_neg hdma, if_neg hppu]
  simp only [routeWrite, hregion, hreg, ioWrite]

/-! ### Cycles charged and cycles the timer has counted (R371) -/

/-- From s to t timer and IF are advanced by exactly the cycles charged. -/
def Ticks (s t : State) : Prop :=
  s.charged ≤ t.charged ∧ (t.timer, t.irq) = timerTicks (t.charged - s.charged) (s.timer, s.irq)

/-- From s to t the divider is advanced by exactly the cycles charged. -/
def Counts (s t : State) : Prop :=
  s.charged ≤ t.charged ∧
    t.timer.divCounter = s.timer.divCounter + BitVec.ofNat 16 (t.charged - s.charged)

theorem Ticks.trans {s t u : State} (h : Ticks s t) (k : Ticks t u) : Ticks s u := by
  obtain ⟨hle, ht⟩ := h
  obtain ⟨kle, ku⟩ := k
  refine ⟨hle.trans kle, ?_⟩
  rw [ku, ht, timerTicks_add]
  congr 1
  omega

theorem Counts.trans {s t u : State} (h : Counts s t) (k : Counts t u) : Counts s u := by
  obtain ⟨hle, ht⟩ := h
  obtain ⟨kle, ku⟩ := k
  refine ⟨hle.trans kle, ?_⟩
  rw [ku, ht, BitVec.add_assoc, ← BitVec.ofNat_add]
  congr 2
  omega

theorem Ticks.counts {s t : State} (h : Ticks s t) : Counts s t :=
  ⟨h.1, (congrArg (fun x : Timer × Irq => x.1.divCounter) h.2).trans (timerTicks_divCounter ..)⟩

theorem ticks_timerAdvance (n c : Nat) (s : State) (h : c = s.charged + n) :
    Ticks s { timerAdvance n s with charged := c } := by
  subst h
  refine ⟨Nat.le_add_right .., ?_⟩
  rw [Nat.add_sub_cancel_left]
  rfl

theorem ticks_busTick (s : State) : Ticks s (busTick s) := ticks_timerAdvance 4 _ s rfl

theorem ticks_finish (c : Nat) (s : State) (h : s.charged ≤ c) : Ticks s (finish c s) :=
  ticks_timerAdvance (c - s.charged) c s (by omega)

/-- Charged reads first: what follows is counted from before them. -/
theorem ticks_of_reads {s t : State} (k : Nat) (h : Ticks (iterate busTick k s) t) : Ticks s t := by
  induction k generalizing s with
  | zero => exact h
  | succ k ih => exact (ticks_busTick s).trans (ih h)

theorem counts_of_reads {s t : State} (k : Nat) (h : Counts (iterate busTick k s) t) : Counts s t := by
  induction k generalizing s with
  | zero => exact h
  | succ k ih => exact (ticks_busTick s).counts.trans (ih h)

theorem ticks_memWrite (a : Word) (v : Byte) (s : State) (h : a ∉ timerAddresses) : Ticks s (memWrite a v s) := by
  obtain ⟨htimer, hirq⟩ := cpuWrite_timer_irq a v (busTick s) h
  obtain ⟨hle, hticks⟩ := ticks_busTick s
  unfold Ticks memWrite
  rw [cpuWrite_charged, htimer, hirq]
  exact ⟨hle, hticks⟩

theorem counts_memWrite (a : Word) (v : Byte) (s : State) (h : a ≠ 0xFF04#16) : Counts s (memWrite a v s) := by
  obtain ⟨hle, hcounts⟩ := (ticks_busTick s).counts
  unfold Counts memWrite
  rw [cpuWrite_charged, cpuWrite_divCounter a v _ h]
  exact ⟨hle, hcounts⟩

theorem ticks_pushByte (v : Byte) (s : State) (h : s.cpu.sp - 1#16 ∉ timerAddresses) : Ticks s (pushByte v s) :=
  ticks_memWrite (s.cpu.sp - 1#16) v (setSp (s.cpu.sp - 1#16) s) h

theorem counts_pushByte (v : Byte) (s : State) (h : s.cpu.sp - 1#16 ≠ 0xFF04#16) : Counts s (pushByte v s) :=
  counts_memWrite (s.cpu.sp - 1#16) v (setSp (s.cpu.sp - 1#16) s) h

/-- The second byte of a push goes two below the old SP. -/
theorem pushByte_sp_sub (v : Byte) (s : State) : (pushByte v s).cpu.sp - 1#16 = s.cpu.sp - 2#16 := by
  rw [pushByte_cpu]
  exact BitVec.sub_sub ..

theorem ticks_push16 (v : Word) (s : State) (h1 : s.cpu.sp - 1#16 ∉ timerAddresses)
    (h2 : s.cpu.sp - 2#16 ∉ timerAddresses) : Ticks s (push16 v s) :=
  (ticks_pushByte _ s h1).trans (ticks_pushByte _ _ (by rwa [pushByte_sp_sub]))

theorem counts_push16 (v : Word) (s : State) (h1 : s.cpu.sp - 1#16 ≠ 0xFF04#16) (h2 : s.cpu.sp - 2#16 ≠ 0xFF04#16) :
    Counts s (push16 v s) :=
  (counts_pushByte _ s h1).trans (counts_pushByte _ _ (by rwa [pushByte_sp_sub]))

@[simp] theorem push16_charged (v : Word) (s : State) : (push16 v s).charged = s.charged + 8 := by
  rw [push16_eq, memWrite_charged, memWrite_charged]

@[simp] theorem storeSp_charged (nn : Word) (s : State) : (storeSp nn s).charged = s.charged + 8 := by
  rw [storeSp, memWrite_charged, memWrite_charged]

theorem iterate_busTick_charged (k : Nat) (s : State) : (iterate busTick k s).charged = s.charged + 4 * k := by
  induction k generalizing s with
  | zero => rfl
  | succ k ih => rw [iterate, ih, busTick_charged]; omega

theorem dmaBlocks_iterate_busTick (a : Word) (k : Nat) (s : State) :
    dmaBlocks a (iterate busTick k s) = dmaBlocks a s :=
  iterate_keeps (fun t => dmaBlocks a t = dmaBlocks a s) busTick (fun _ h => h) k s rfl

/-! ### The three kinds of instruction -/

theorem ticks_of_readsOnly {i : Instr} {s t : State} {k c : Nat} (h : ReadsOnly i s k c)
    (hs : s.charged = 4 * (encode i).length) (ht : exec i s = .next t) : Ticks s t := by
  obtain ⟨⟨u, hexec, -⟩, hcycles⟩ := h
  cases hexec.symm.trans ht
  refine ticks_of_reads k (ticks_finish c { iterate busTick k s with cpu := u } ?_)
  rw [iterate_busTick_charged]
  omega

theorem storesByte_timer {i : Instr} {s t : State} {a : Word} {k : Nat} {v : Byte} (h : StoresByte i s a k v)
    (hs : s.charged = 4 * (encode i).length) (ht : exec i s = .next t) :
    (a ∉ timerAddresses → Ticks s t) ∧ (a ≠ 0xFF04#16 → Counts s t) ∧
    (a = 0xFF04#16 → dmaBlocks a s = false → t.timer.divCounter = 0#16) := by
  obtain ⟨u, hexec, -⟩ := h
  cases hexec.symm.trans ht
  have hcharged : (memWrite a v (iterate busTick k s)).charged = 4 * ((encode i).length + k + 1) := by
    rw [memWrite_charged, iterate_busTick_charged, hs]
    omega
  have hend := ticks_finish _ { memWrite a v (iterate busTick k s) with cpu := u } hcharged.le
  refine ⟨fun ha => ?_, fun ha => ?_, fun ha hfree => ?_⟩
  · exact ticks_of_reads k ((ticks_memWrite a v _ ha).trans hend)
  · exact counts_of_reads k ((counts_memWrite a v _ ha).trans hend.counts)
  · subst ha
    have hdiv := cpuWrite_div v (busTick (iterate busTick k s)) ((dmaBlocks_iterate_busTick _ k s).trans hfree)
    rw [finish_timer, timerTicks_divCounter, hcharged, Nat.sub_self]
    exact (BitVec.add_zero _).trans hdiv

theorem pushesWord_timer {i : Instr} {s t : State} {c : Nat} (h : PushesWord i s c)
    (hs : s.charged = 4 * (encode i).length) (ht : exec i s = .next t) :
    (s.cpu.sp - 1#16 ∉ timerAddresses → s.cpu.sp - 2#16 ∉ timerAddresses → Ticks s t) ∧
    (s.cpu.sp - 1#16 ≠ 0xFF04#16 → s.cpu.sp - 2#16 ≠ 0xFF04#16 → Counts s t) := by
  obtain ⟨v, u, hexec, hcycles, -⟩ | ⟨hexec, hcycles⟩ := h
  · cases hexec.symm.trans ht
    have hend := ticks_finish c { push16 v s with cpu := u } (by rw [push16_charged]; omega)
    exact ⟨fun h1 h2 => (ticks_push16 v s h1 h2).trans hend, fun h1 h2 => (counts_push16 v s h1 h2).trans hend.counts⟩
  · cases hexec.symm.trans ht
    have hend := ticks_finish c s (by omega)
    exact ⟨fun _ _ => hend, fun _ _ => hend.counts⟩

theorem storeSp_timer {nn : Word} {s t : State} (hs : s.charged = 12) (ht : exec (.ld_mNn_sp nn) s = .next t) :
    (nn ∉ timerAddresses → nn + 1#16 ∉ timerAddresses → Ticks s t) ∧
    (nn ≠ 0xFF04#16 → nn + 1#16 ≠ 0xFF04#16 → Counts s t) := by
  cases ht
  have hend := ticks_finish 20 (storeSp nn s) (by rw [storeSp_charged, hs])
  exact ⟨fun h1 h2 => ((ticks_memWrite nn _ s h1).trans (ticks_memWrite (nn + 1#16) _ _ h2)).trans hend,
    fun h1 h2 => ((counts_memWrite nn _ s h1).trans (counts_memWrite (nn + 1#16) _ _ h2)).trans hend.counts⟩

/-- Settles O38: the charge by `exec_completes`, the timer by the kind of the instruction. -/
theorem everyCycleReachesTheTimer : Obligations.EveryCycleReachesTheTimer := by
  unfold Obligations.EveryCycleReachesTheTimer
  intro timerReg ticked counted i s t hs ht
  have hreg (a : Word) (h : timerReg a = false) : a ∉ timerAddresses := of_decide_eq_false h
  refine ⟨?_, fun h => ?_, fun a h => ?_, fun h => ?_, ?_⟩
  · have hstop : ∀ n, i ≠ .stop n := by rintro n rfl; cases ht
    obtain ⟨u, hu, hcharged, -⟩ := exec_completes i s hstop
    cases hu.symm.trans ht
    exact hs.le.trans hcharged
  · obtain ⟨k, c, hreads⟩ := readsOnly_of_storesNothing s h
    exact (ticks_of_readsOnly hreads hs ht).2
  · obtain ⟨k, v, hstores⟩ := storesByte_of_storesAt h
    obtain ⟨hticks, hcounts, hdiv⟩ := storesByte_timer hstores hs ht
    exact ⟨fun ha => (hticks (hreg a ha)).2, fun ha => (hcounts ha).2, hdiv⟩
  · obtain ⟨c, hpushes⟩ := pushesWord_of_pushes s h
    obtain ⟨hticks, hcounts⟩ := pushesWord_timer hpushes hs ht
    exact ⟨fun h1 h2 => (hticks (hreg _ h1) (hreg _ h2)).2, fun h1 h2 => (hcounts h1 h2).2⟩
  · rintro nn rfl
    obtain ⟨hticks, hcounts⟩ := storeSp_timer hs ht
    exact ⟨fun h1 h2 => (hticks (hreg _ h1) (hreg _ h2)).2, fun h1 h2 => (hcounts h1 h2).2⟩

end Sys2Proof.Machine
end

section
/-! PROOFS. The family of spec/60_exceptions.md, fourth part: the peers (R106, R370, R401, R451) and the host
(R380 to R385). -/

namespace Sys2Proof.Machine

/-! ### The peers (R370) -/

theorem dmaAdvance_eq (c : Nat) (s : State) : dmaAdvance c s = { s with dma :=
    if s.dma.active then
      { s.dma with
        elapsed := s.dma.elapsed + c
        active := decide (s.dma.elapsed + c < s.par.dmaCycles) }
    else s.dma } := by
  unfold dmaAdvance
  split <;> rfl

/-- Settles O60: each peer is advanced on fields the others leave alone. -/
theorem peersAreFed : Obligations.PeersAreFed :=
  ⟨fun s => by rw [feedPeers, dmaAdvance_eq]; rfl, fun _ _ _ => rfl⟩

@[simp] theorem feedPeers_cpu (s : State) : (feedPeers s).cpu = s.cpu := by
  rw [feedPeers, dmaAdvance_eq]
  rfl

/-! ### The host (R380 to R385) -/

/-- SetJoypad (R381): the byte, and the request exactly when a selected button goes from released to pressed. -/
theorem setJoypad_eq (j : Byte) (s : State) : setJoypad j s = { s with
    port := { s.port with joy := j }
    irq := { s.irq with request :=
      (if joypadLow s.p1 s.port.joy &&& ~~~(joypadLow s.p1 j) &&& 0x0F#8 ≠ 0#8 then s.irq.request ||| 0x10#8
      else s.irq.request) } } := by
  unfold setJoypad
  dsimp only
  rw [ite_not]
  split <;> rfl

/-- A paused machine with no action to come waits (R380). -/
theorem step_of_paused (s : State) (h : s.port.runState = .paused) (hscript : s.port.script = []) : step s = .next s := by
  have hturn : hostTurn s = s := by simp only [hostTurn, hscript]
  rw [step_of_notStopped s (by simp [h]), hturn, if_neg (by simp [h])]

/-- Settles O54: an action on a machine that is not stopped is its branch of `hostAction`. -/
theorem joypadAndHostActions : Obligations.JoypadAndHostActions :=
  ⟨setJoypad_eq,
    fun _ hrun => ⟨fun _ => if_neg hrun, if_neg hrun, if_neg hrun, if_neg hrun, if_neg hrun,
      fun hready => if_pos hready, if_neg hrun, rfl, if_neg hrun, rfl, fun _ => ⟨if_neg hrun, rfl⟩⟩,
    fun s hstop => ⟨step_of_stopped s hstop, fun _ => if_pos hstop⟩,
    step_of_paused⟩

end Sys2Proof.Machine
end

section
/-! PROOFS. The family of spec/60_exceptions.md, fifth part: the interrupts (R351 to R357). -/

namespace Sys2Proof.Machine

/-! ### The pending set and its least source (R351, R355, R356) -/

theorem forall_source {P : Source → Prop} :
    (∀ n, P n) ↔ P .vblank ∧ P .lcdStat ∧ P .timer ∧ P .serial ∧ P .joypad :=
  ⟨fun h => ⟨h _, h _, h _, h _, h _⟩, fun ⟨h0, h1, h2, h3, h4⟩ n => by cases n <;> assumption⟩

/-- A source is pending when its bits of IE and IF are set: the mask has all five bits (R356). -/
theorem pending_getLsbD (q : Irq) (n : Source) :
    q.pending.getLsbD n.num = (q.enable.getLsbD n.num && q.request.getLsbD n.num) := by
  have hmask : (0x1F#8).getLsbD n.num = true := by cases n <;> decide
  rw [Irq.pending, BitVec.getLsbD_and, BitVec.getLsbD_and, hmask, Bool.and_true]

theorem firstPending_eq_some_iff (p : Byte) (n : Source) : firstPending p = some n ↔
    p.getLsbD n.num = true ∧ ∀ m : Source, m.num < n.num → p.getLsbD m.num = false := by
  unfold firstPending bit
  cases n <;> simp only [forall_source, Source.num] <;> split_ifs <;> simp_all

theorem firstPending_eq_none_iff (p : Byte) : firstPending p = none ↔ ∀ n : Source, p.getLsbD n.num = false := by
  unfold firstPending bit
  simp only [forall_source, Source.num]
  split_ifs <;> simp_all

/-- The pending set is empty when none of its five bits is set. -/
theorem pending_eq_zero_iff (q : Irq) : q.pending = 0#8 ↔ ∀ n : Source, q.pending.getLsbD n.num = false := by
  refine ⟨fun h n => by rw [h, BitVec.getLsbD_zero], fun h => BitVec.eq_of_getLsbD_eq fun i hi => ?_⟩
  obtain ⟨h0, h1, h2, h3, h4⟩ := forall_source.1 h
  rw [BitVec.getLsbD_zero]
  by_cases hlow : i < 5
  · interval_cases i <;> assumption
  · have hmask : ∀ i < 8, 5 ≤ i → (0x1F#8).getLsbD i = false := by decide
    rw [Irq.pending, BitVec.getLsbD_and, hmask i hi (by omega), Bool.and_false]

/-- Settles O41. -/
theorem interruptSources : Obligations.InterruptSources :=
  ⟨fun n => by cases n <;> decide, fun _ _ => rfl, pending_getLsbD,
    fun q => (firstPending_eq_none_iff q.pending).trans (pending_eq_zero_iff q).symm,
    fun q n => firstPending_eq_some_iff q.pending n⟩

/-! ### The dispatch (R353, R354) -/

theorem num_le (n : Source) : n.num ≤ 4 := by cases n <;> decide

/-- Any number below that of a source is the number of a source. -/
theorem exists_source_of_lt {m : Nat} {n : Source} (h : m < n.num) : ∃ k : Source, k.num = m := by
  have hn := num_le n
  have hm : m < 4 := by omega
  interval_cases m
  · exact ⟨.vblank, rfl⟩
  · exact ⟨.lcdStat, rfl⟩
  · exact ⟨.timer, rfl⟩
  · exact ⟨.serial, rfl⟩

/-- The source is accepted: IME and its bit of IF are cleared, and no cycle of the entry is charged yet (R354). -/
def acceptInterrupt (n : Source) (s : State) : State :=
  { s with cpu := { s.cpu with ime := false }, irq := s.irq.acknowledge n, charged := 0 }

/-- The entry is a call of the vector in the state that has accepted the source; its two stores charge 8 cycles. -/
theorem takeInterrupt_eq (n : Source) (s : State) : takeInterrupt n s =
    { timerAdvance (s.par.intDispatchCycles - 8) (callTo n.vector (acceptInterrupt n s)) with
      charged := s.par.intDispatchCycles } := by
  have hcharged : (callTo n.vector (acceptInterrupt n s)).charged = 8 := push16_charged _ (acceptInterrupt n s)
  rw [← hcharged]
  rfl

/-- Settles O42: `firstPending` gives the source, `takeInterrupt_eq` its entry. -/
theorem interruptDispatch : Obligations.InterruptDispatch := by
  intro s p
  refine ⟨fun hzero => ?_, fun hpending hime => ?_, fun hpending hime => ?_⟩
  · rw [serviceInterrupts, (firstPending_eq_none_iff _).2 ((pending_eq_zero_iff _).1 hzero)]
  all_goals
    obtain ⟨n, hn⟩ : ∃ n, firstPending s.irq.pending = some n := Option.ne_none_iff_exists'.1 fun hnone =>
      hpending ((pending_eq_zero_iff _).2 ((firstPending_eq_none_iff _).1 hnone))
    simp only [serviceInterrupts, hn]
  · exact if_neg (by simp [hime])
  · obtain ⟨hbit, hlow⟩ := (firstPending_eq_some_iff _ _).1 hn
    refine ⟨n.num, num_le n, hbit, fun m hm => ?_, ?_⟩
    · obtain ⟨k, rfl⟩ := exists_source_of_lt hm
      exact hlow k hm
    · rw [if_pos hime, takeInterrupt_eq, callTo_eq, acceptInterrupt]
      rfl

end Sys2Proof.Machine
end

section
/-! PROOFS. The family of spec/60_exceptions.md, sixth part: interrupt entry, calls and returns undo each other, and
a handler runs uninterrupted (R316, R320, R323, R354, R357). -/

namespace Sys2Proof.Machine

/-! ### Accesses to work RAM (R84, R85) -/

theorem load_wram (n : Nat) (s : State) (hlo : 0xC000 ≤ n) (hhi : n ≤ 0xDFFF) : load n s = Memory.read s.mem n := by
  have hr : regionOf n = .wram := (regionOf_ram_range n).2.1.2 ⟨hlo, hhi⟩
  rw [load, hr]

theorem cpuRead_wram (a : Word) (s : State) (hfree : s.dma.active = false) (hlo : 0xC000 ≤ a.toNat)
    (hhi : a.toNat ≤ 0xDFFF) : cpuRead a s = Memory.read s.mem a.toNat := by
  rw [cpuRead_eq, if_neg (by simp [hfree]), if_neg (by omega), if_neg (by omega), if_neg (by omega),
    if_neg (by omega), load_wram _ s hlo hhi]

theorem memWrite_wram (a : Word) (v : Byte) (s : State) (hfree : s.dma.active = false) (hlo : 0xC000 ≤ a.toNat)
    (hhi : a.toNat ≤ 0xDFFF) : memWrite a v s = storeMem a.toNat v (busTick s) := by
  rw [memWrite, cpuWrite_eq, if_neg (by simp [hfree]), if_neg (by omega), if_neg (by omega), if_neg (by omega),
    if_pos hhi]

/-! ### A word on a stack in work RAM (R81, R207) -/

/-- No transfer blocks the stack, and the word pushed next lies in work RAM. -/
structure StackInWram (s : State) : Prop where
  canonical : Memory.wf s.mem = true
  free : s.dma.active = false
  low : 0xC002 ≤ s.cpu.sp.toNat
  high : s.cpu.sp.toNat ≤ 0xE000

theorem StackInWram.sub_toNat {s : State} (h : StackInWram s) :
    (s.cpu.sp - 1#16).toNat = s.cpu.sp.toNat - 1 ∧ (s.cpu.sp - 2#16).toNat = s.cpu.sp.toNat - 2 := by
  have := h.low
  constructor <;> bv_omega

theorem pushByte_wram (v : Byte) (s : State) (hfree : s.dma.active = false) (hlo : 0xC000 ≤ (s.cpu.sp - 1#16).toNat)
    (hhi : (s.cpu.sp - 1#16).toNat ≤ 0xDFFF) : (pushByte v s).dma = s.dma ∧
    (pushByte v s).mem = Memory.write s.mem (s.cpu.sp - 1#16).toNat v := by
  have hpush : pushByte v s = _ := memWrite_wram (s.cpu.sp - 1#16) v (setSp (s.cpu.sp - 1#16) s) hfree hlo hhi
  rw [hpush]
  exact ⟨rfl, rfl⟩

theorem push16_wram (v : Word) {s : State} (h : StackInWram s) : (push16 v s).dma = s.dma ∧ (push16 v s).mem =
    Memory.write (Memory.write s.mem (s.cpu.sp - 1#16).toNat (hiByte v)) (s.cpu.sp - 2#16).toNat (loByte v) := by
  obtain ⟨hhigh, hlow⟩ := h.sub_toNat
  obtain ⟨-, hfree, hmin, hmax⟩ := h
  obtain ⟨hdma, hmem⟩ := pushByte_wram (hiByte v) s hfree (by omega) (by omega)
  have hsp := pushByte_sp_sub (hiByte v) s
  obtain ⟨hdma', hmem'⟩ := pushByte_wram (loByte v) (pushByte (hiByte v) s) (hdma ▸ hfree)
    (by rw [hsp]; omega) (by rw [hsp]; omega)
  rw [hmem, hsp] at hmem'
  exact ⟨hdma'.trans hdma, hmem'⟩

/-- The bytes of a pushed word: the high byte at SP - 1, the low byte at SP - 2 (R81). -/
theorem read_push16 (v : Word) {s : State} (h : StackInWram s) :
    Memory.read (push16 v s).mem (s.cpu.sp - 1#16).toNat = hiByte v ∧
    Memory.read (push16 v s).mem (s.cpu.sp - 2#16).toNat = loByte v := by
  obtain ⟨hhigh, hlow⟩ := h.sub_toNat
  have hmin := h.low
  rw [(push16_wram v h).2]
  refine ⟨?_, Memory.read_write_same _ _ _ (Memory.wf_write _ _ _ h.canonical)⟩
  rw [Memory.read_write_other _ _ _ _ (by omega)]
  exact Memory.read_write_same _ _ _ h.canonical

theorem pop16_wram (t : State) (hfree : t.dma.active = false) (hlo : 0xC000 ≤ t.cpu.sp.toNat)
    (hhi : t.cpu.sp.toNat < 0xDFFF) :
    (pop16 t).1 = cat (Memory.read t.mem (t.cpu.sp + 1#16).toNat) (Memory.read t.mem t.cpu.sp.toNat) := by
  have hsp : (t.cpu.sp + 1#16).toNat = t.cpu.sp.toNat + 1 := by bv_omega
  have hlow : (popByte t).1 = Memory.read t.mem t.cpu.sp.toNat :=
    cpuRead_wram t.cpu.sp (busTick t) hfree hlo (by omega)
  have hhigh : (popByte (popByte t).2).1 = Memory.read t.mem (t.cpu.sp + 1#16).toNat :=
    cpuRead_wram (t.cpu.sp + 1#16) (busTick (popByte t).2) hfree (by omega) (by omega)
  exact congrArg₂ cat hhigh hlow

/-- The word pushed is the word popped, whatever other registers have changed between. -/
theorem pop16_of_push16 (v : Word) {s t : State} (h : StackInWram s) (hdma : t.dma = (push16 v s).dma)
    (hmem : t.mem = (push16 v s).mem) (hsp : t.cpu.sp = s.cpu.sp - 2#16) : (pop16 t).1 = v := by
  obtain ⟨hhigh, hlow⟩ := h.sub_toNat
  obtain ⟨hread, hread'⟩ := read_push16 v h
  have hnext : s.cpu.sp - 2#16 + 1#16 = s.cpu.sp - 1#16 := by bv_omega
  have hfree : t.dma.active = false := by rw [hdma, (push16_wram v h).1]; exact h.free
  obtain ⟨-, -, hmin, hmax⟩ := h
  rw [pop16_wram t hfree (by rw [hsp]; omega) (by rw [hsp]; omega), hmem, hsp, hnext, hread, hread', cat_halves]

/-! ### The registers through entry, call and return (R316, R320, R323, R354) -/

theorem callTo_cpu (a : Word) (s : State) : (callTo a s).cpu = { s.cpu with sp := s.cpu.sp - 2#16, pc := a } := by
  rw [callTo_eq]

theorem takeInterrupt_cpu (n : Source) (s : State) :
    (takeInterrupt n s).cpu = { s.cpu with ime := false, sp := s.cpu.sp - 2#16, pc := n.vector } := by
  rw [takeInterrupt_eq]
  exact callTo_cpu ..

theorem popPc_cpu (s : State) : (popPc s).cpu = { s.cpu with sp := s.cpu.sp + 2#16, pc := (pop16 s).1 } := by
  rw [popPc_eq]
  rfl

/-- A return from where the word pushed in s is next on the stack. -/
theorem popPc_of_push16 (v : Word) {s t : State} (h : StackInWram s) (hdma : t.dma = (push16 v s).dma)
    (hmem : t.mem = (push16 v s).mem) (hsp : t.cpu.sp = s.cpu.sp - 2#16) :
    (popPc t).cpu = { t.cpu with sp := s.cpu.sp, pc := v } := by
  rw [popPc_cpu, pop16_of_push16 v h hdma hmem hsp, hsp, BitVec.sub_add_cancel]

/-- Entry saves PC alone, and a return at once restores the registers with IME set (R354, R357). -/
theorem entry_and_return (n : Source) {s : State} (h : StackInWram s) :
    load (s.cpu.sp - 1#16).toNat (takeInterrupt n s) = hiByte s.cpu.pc ∧
    load (s.cpu.sp - 2#16).toNat (takeInterrupt n s) = loByte s.cpu.pc ∧
    (returnFromInterrupt (takeInterrupt n s)).cpu = { s.cpu with ime := true, eiPending := false } := by
  have haccept : StackInWram (acceptInterrupt n s) := ⟨h.canonical, h.free, h.low, h.high⟩
  have hmem : (takeInterrupt n s).mem = (push16 s.cpu.pc (acceptInterrupt n s)).mem := rfl
  have hdma : (takeInterrupt n s).dma = (push16 s.cpu.pc (acceptInterrupt n s)).dma := rfl
  have hcpu := takeInterrupt_cpu n s
  obtain ⟨hhigh, hlow⟩ := h.sub_toNat
  obtain ⟨hread, hread'⟩ := read_push16 s.cpu.pc haccept
  obtain ⟨-, -, hmin, hmax⟩ := h
  refine ⟨?_, ?_, ?_⟩
  · rw [load_wram _ _ (by omega) (by omega), hmem]
    exact hread
  · rw [load_wram _ _ (by omega) (by omega), hmem]
    exact hread'
  · have hpop := popPc_of_push16 s.cpu.pc haccept hdma hmem (congrArg Cpu.sp hcpu)
    rw [returnFromInterrupt, withCpu_cpu, hpop, hcpu]
    rfl

/-- A pop right after a push restores the word and the registers. -/
theorem pop16_push16 (v : Word) {s : State} (h : StackInWram s) :
    (pop16 (push16 v s)).1 = v ∧ (pop16 (push16 v s)).2.cpu = s.cpu := by
  have hsp : (push16 v s).cpu.sp = s.cpu.sp - 2#16 := by
    rw [push16_cpu]
    exact BitVec.sub_sub ..
  refine ⟨pop16_of_push16 v h rfl rfl hsp, ?_⟩
  rw [pop16_cpu, push16_cpu, BitVec.sub_add_cancel, BitVec.sub_add_cancel]

/-- RET right after CALL comes back with every register as before (R316, R320). -/
theorem ret_of_call (nn : Word) {s : State} (h : StackInWram s) : ∃ t u : State, exec (.call_nn nn) s = .next t ∧
    t.cpu.pc = nn ∧ exec .ret t = .next u ∧ u.cpu = s.cpu := by
  refine ⟨finish 24 (callTo nn s), finish 16 (popPc (finish 24 (callTo nn s))), rfl, rfl, rfl, ?_⟩
  have hcpu : (finish 24 (callTo nn s)).cpu = _ := callTo_cpu nn s
  rw [finish_cpu, popPc_of_push16 (t := finish 24 (callTo nn s)) s.cpu.pc h rfl rfl (by rw [hcpu]), hcpu]

/-! ### A handler is not interrupted (R357) -/

theorem serviceInterrupts_armsNothing (s : State) : ArmsNothing s.cpu (serviceInterrupts s).cpu := by
  unfold serviceInterrupts
  split
  · exact ⟨id, id⟩
  · split
    · rw [feedPeers_cpu, takeInterrupt_cpu]
      exact ⟨fun h => absurd h Bool.false_ne_true, id⟩
    · exact ⟨id, id⟩

theorem afterStep_armsNothing (s : State) : ArmsNothing s.cpu (afterStep s).cpu := by
  have h := serviceInterrupts_armsNothing (feedPeers s)
  rwa [feedPeers_cpu] at h

theorem fetchInstr_arming (s : State) : (fetchInstr s).2.cpu.arming = s.cpu.arming := by
  unfold fetchInstr
  rw [fetchOpcode_eq]
  dsimp only
  split <;> rfl

/-- From IME and the latch clear, an iteration that sets one of them has executed EI or RETI. -/
theorem iteration_arms {s t : State} (hime : s.cpu.ime = false) (hlatch : s.cpu.eiPending = false)
    (hiter : iteration s = .next t) (harmed : t.cpu.ime = true ∨ t.cpu.eiPending = true) :
    s.cpu.halted = false ∧
      ((fetchInstr { s with charged := 0 }).1 = .ei ∨ (fetchInstr { s with charged := 0 }).1 = .reti) := by
  have hnone : ¬ ArmsNothing s.cpu t.cpu := by
    rintro ⟨hi, hl⟩
    simpa [hime, hlatch] using harmed.imp hi hl
  cases hhalt : s.cpu.halted with
  | true =>
    rw [iteration, cpuStep_of_halted s hhalt] at hiter
    cases hiter
    exact absurd (afterStep_armsNothing { timerAdvance 4 s with charged := 4 }) hnone
  | false =>
    refine ⟨rfl, by_contra fun hother => hnone ?_⟩
    rcases hfetch : fetchInstr { s with charged := 0 } with ⟨i, f⟩
    rw [hfetch] at hother
    obtain ⟨hnei, hnreti⟩ := not_or.1 hother
    have hunarmed : eiArmed s = false := by rw [eiArmed, hlatch, Bool.and_false]
    rw [iteration_of_fetched s hhalt i f hfetch, hunarmed] at hiter
    have hstop : ∀ n, i ≠ .stop n := by rintro n rfl; cases hiter
    obtain ⟨u, hexec, -, hinstr⟩ := exec_completes i f hstop
    rw [hexec] at hiter
    cases hiter
    have hf : ArmsNothing s.cpu f.cpu := armsNothing_of_arming_eq <| by
      simpa only [hfetch] using fetchInstr_arming { s with charged := 0 }
    exact (hf.trans (hinstr hnei hnreti)).trans (afterStep_armsNothing u)

/-- Settles O43: the stack clauses by `popPc_of_push16`, the last by `iteration_arms`; IME set means no EI waits. -/
theorem entryCallAndReturn : Obligations.EntryCallAndReturn := by
  refine ⟨fun n s hwf hfree hlo hhi => ⟨takeInterrupt_cpu n s, entry_and_return n ⟨hwf, hfree, hlo, hhi⟩⟩,
    fun s hwf hfree hlo hhi => ⟨fun v => pop16_push16 v ⟨hwf, hfree, hlo, hhi⟩,
      fun nn => ret_of_call nn ⟨hwf, hfree, hlo, hhi⟩⟩,
    fun n s hok hime => ?_, fun s t => iteration_arms⟩
  rw [takeInterrupt_cpu]
  refine ⟨rfl, Bool.eq_false_iff.2 fun hlatch => ?_⟩
  exact Bool.false_ne_true ((hok.waiting hlatch).symm.trans hime)

end Sys2Proof.Machine
end

section
/-! PROOFS. The family of spec/61_ppu.md, first part: the pixels of a line (R410 to R413, R420, R421), the two updates of
STAT (R403, R404), one tick (R402, R405). -/

namespace Sys2Proof.Machine

/-! ### Fields of a byte, and requests -/

theorem bitNat_bit (v : Byte) (i : Nat) : bitNat (bit v i) = v.toNat / 2 ^ i % 2 := by
  rw [← Nat.toNat_testBit]
  show bitNat (v.toNat.testBit i) = _
  cases v.toNat.testBit i <;> rfl

/-- A mask without bit 0 makes a number even. -/
theorem and_FE_toNat (v : Byte) : (v &&& 0xFE#8).toNat = v.toNat / 2 * 2 := by
  have hshift : v &&& 0xFE#8 = v >>> 1 <<< 1 := (BitVec.shiftLeft_ushiftRight (x := v) (n := 1)).symm
  rw [hshift]
  bv_omega

/-- Bits written outside a mask leave those of the mask. -/
theorem replaced_and_mask (v w mask : Byte) (h : w &&& mask = 0#8) : (v &&& mask ||| w) &&& mask = v &&& mask := by
  rw [byte_or_and, h, BitVec.or_zero, BitVec.and_assoc, BitVec.and_self]

/-- Bytes that agree under a mask agree under a smaller one. -/
theorem and_eq_and_of_submask {v w mask sub : Byte} (hsub : mask &&& sub = sub) (h : v &&& mask = w &&& mask) :
    v &&& sub = w &&& sub := by
  rw [← hsub, ← BitVec.and_assoc, h, BitVec.and_assoc]

/-- A request sets the bit of its source alone (R351). -/
theorem raise_request_getLsbD (n : Source) (q : Irq) (k : Nat) :
    (q.raise n).request.getLsbD k = (q.request.getLsbD k || decide (k = n.num)) := by
  have hmask : bitMask n.num = BitVec.twoPow 8 n.num := rfl
  have hwidth : n.num < 8 := (num_le n).trans_lt (by decide)
  rw [Irq.raise, BitVec.getLsbD_or, hmask, BitVec.getLsbD_twoPow, decide_eq_true hwidth, Bool.true_and]
  exact congrArg (q.request.getLsbD k || ·) (decide_eq_decide.2 eq_comm)

/-- A second request of a source asks for nothing more (R403, R404). -/
theorem raise_raise (n : Source) (q : Irq) : (q.raise n).raise n = q.raise n := by
  simp only [Irq.raise, BitVec.or_assoc, BitVec.or_self]

/-! ### Colours and tiles (R411 to R413) -/

theorem tilePixel_toNat (lo hi : Byte) (k : Nat) :
    (tilePixel lo hi k).toNat = 2 * (hi.toNat / 2 ^ (7 - k) % 2) + lo.toNat / 2 ^ (7 - k) % 2 := by
  rw [tilePixel, bitNat_bit, bitNat_bit, BitVec.toNat_ofNat, Nat.mod_eq_of_lt]
  omega

theorem shade_eq (p : Byte) (c : BitVec 2) : shade p c = p.toNat / 4 ^ c.toNat % 4 := by
  rw [shade, field, Nat.shiftRight_eq_div_pow, Nat.pow_mul]
  rfl

/-- Tile numbers from 0x80 on are signed: their tiles lie below 0x9000 (R411). -/
theorem tileAddr_signed (t : Byte) : tileAddr false t =
    if t.toNat < 0x80 then 0x9000 + 16 * t.toNat else 0x9000 - 16 * (0x100 - t.toNat) := by
  rw [tileAddr, if_neg Bool.false_ne_true]
  split
  · rfl
  · omega

/-! ### One pixel, and the rows a line fills (R410, R421) -/

theorem windowCovers_iff (p : Ppu) (ly x : Nat) :
    p.windowCovers ly x = true ↔ p.lcdc.getLsbD 5 = true ∧ p.wy.toNat ≤ ly ∧ p.wx.toNat ≤ x + 7 := by
  simp only [Ppu.windowCovers, bit, Bool.and_eq_true, decide_eq_true_eq, and_assoc]

theorem spriteHeight_eq_16_iff (p : Ppu) : p.spriteHeight = 16 ↔ bit p.lcdc 2 = true := by
  unfold Ppu.spriteHeight
  cases bit p.lcdc 2 <;> decide

/-- A sprite leaves a pixel it does not reach, is transparent for, or is hidden at (R421). -/
theorem drawSprite_eq (mem : Memory) (p : Ppu) (ly x : Nat) (code : BitVec 2) (under : Rgb) (o : Sprite) :
    p.drawSprite mem ly x code under o = (p.spriteCode mem o ly x).elim under fun c =>
      if c = 0#2 ∨ (bit o.attr 7 = true ∧ code ≠ 0#2) then under
      else ramp (shade (if bit o.attr 4 then p.obp1 else p.obp0) c) := by
  unfold Ppu.drawSprite
  cases p.spriteCode mem o ly x with
  | none => rfl
  | some c => by_cases hclear : c = 0#2 <;> simp [hclear]

theorem rasterize_other (mem : Memory) (ly : Nat) (p : Ppu) {k : Nat} (h : k ≠ ly) :
    (p.rasterize mem ly).fb[k]? = p.fb[k]? ∧ (p.rasterize mem ly).code[k]? = p.code[k]? :=
  ⟨List.getElem?_set_ne h.symm, List.getElem?_set_ne h.symm⟩

theorem rasterize_code (mem : Memory) {ly x : Nat} {p : Ppu} (h : PpuOk p) (hly : ly < 144) (hx : x < 160) :
    ((p.rasterize mem ly).code[ly]?.bind fun row => row[x]?) = some (p.bgCode mem ly x) := by
  have hrow : ly < p.code.length := h.codeRows ▸ hly
  simp [Ppu.rasterize, Ppu.codeRow, hrow, hx]

theorem rasterize_fb (mem : Memory) {ly x : Nat} {p : Ppu} (h : PpuOk p) (hly : ly < 144) (hx : x < 160) :
    ((p.rasterize mem ly).fb[ly]?.bind fun row => row[x]?) =
      some (p.spritePass mem ly x (p.bgCode mem ly x) (p.bgPixel (p.bgCode mem ly x))) := by
  have hrow : ly < p.fb.length := h.rows ▸ hly
  simp [Ppu.rasterize, Ppu.pixelRow, hrow, hx]

/-- Settles O48: the code of a pixel by whether the window covers it, a sprite by whether it reaches it. -/
theorem pixelsAndLines : Obligations.PixelsAndLines := by
  refine ⟨⟨fun t => ⟨rfl, fun hlow => ?_, fun hhigh => ?_⟩, fun lo hi k _ => tilePixel_toNat lo hi k, shade_eq,
    rfl, rfl, rfl, rfl⟩, ?_⟩
  · rw [tileAddr_signed, if_pos hlow]
  · rw [tileAddr_signed, if_neg (Nat.not_lt.2 hhigh)]
  intro mem p ly x hp hly hx window px py map t base c height draw ground r
  have hcode : p.bgCode mem ly x = c := by
    by_cases hwindow : window
    · rw [Ppu.bgCode, if_pos ((windowCovers_iff p ly x).2 hwindow)]
      simp only [c, base, t, map, px, py, if_pos hwindow]
      rfl
    · rw [Ppu.bgCode, if_neg (mt (windowCovers_iff p ly x).1 hwindow)]
      simp only [c, base, t, map, px, py, if_neg hwindow]
      rfl
  have hdraw : ∀ under i, p.drawSprite mem ly x c under (spriteAt mem i) = draw under i := by
    intro under i
    rw [drawSprite_eq, Ppu.spriteCode]
    simp only [spriteHeight_eq_16_iff, apply_ite BitVec.toNat, and_FE_toNat]
    split
    next hreach => exact (if_pos hreach).symm
    next hreach => exact (if_neg hreach).symm
  refine ⟨?_, ?_, fun k hk => rasterize_other mem ly p hk⟩
  · rw [rasterize_code mem hp hly hx, hcode]
  · rw [rasterize_fb mem hp hly hx, hcode, Ppu.spritePass, List.foldl_map]
    simp only [hdraw]
    rfl

/-! ### The two updates of STAT (R38, R403, R404) -/

theorem modeAt_lt (ly pos : Nat) : modeAt ly pos < 4 := by
  unfold modeAt
  split_ifs <;> decide

theorem statEnable_iff (stat : Byte) (m : Nat) : statEnable stat m = true ↔
    (m = 0 ∧ stat.getLsbD 3 = true) ∨ (m = 1 ∧ stat.getLsbD 4 = true) ∨ (m = 2 ∧ stat.getLsbD 5 = true) := by
  unfold statEnable
  split <;> simp_all [bit]

/-- A mode written over bits 1:0 is what they then hold. -/
theorem toNat_mod_four_of_mode (v : Byte) {m : Nat} (hm : m < 4) :
    (v &&& 0xFC#8 ||| BitVec.ofNat 8 m).toNat % 4 = m := by
  rw [BitVec.toNat_or, BitVec.toNat_and, Nat.or_mod_two_pow (n := 2), Nat.and_mod_two_pow (n := 2)]
  interval_cases m <;> simp

/-- `UpdateMode` writes the mode to STAT bits 1:0 and changes nothing else of the PPU. -/
theorem updateMode_ppu (x : Ppu × Irq) :
    (updateMode x).1 = { x.1 with stat := (updateMode x).1.stat } ∧
    (updateMode x).1.stat.toNat % 4 = modeAt x.1.ly.toNat (456 - x.1.budget) ∧
    (updateMode x).1.stat &&& 0xFC#8 = x.1.stat &&& 0xFC#8 := by
  have hmode := modeAt_lt x.1.ly.toNat (456 - x.1.budget)
  unfold updateMode
  dsimp only
  split
  next hsame => exact ⟨rfl, hsame.symm, rfl⟩
  next =>
    refine ⟨rfl, toNat_mod_four_of_mode _ hmode, replaced_and_mask _ _ _ ?_⟩
    interval_cases modeAt x.1.ly.toNat (456 - x.1.budget) <;> rfl

/-- `UpdateMode` requests LCD STAT when it changes the mode to an enabled one. -/
theorem updateMode_irq (x : Ppu × Irq) {m : Nat} (hm : modeAt x.1.ly.toNat (456 - x.1.budget) = m) :
    (updateMode x).2 =
      if m ≠ x.1.stat.toNat % 4 ∧ statEnable x.1.stat m = true then x.2.raise .lcdStat else x.2 := by
  have hmode : x.1.mode = x.1.stat.toNat % 4 := rfl
  rw [updateMode, hm, hmode]
  by_cases hsame : m = x.1.stat.toNat % 4
  · simp [← hsame]
  · simp [hsame]

/-- `UpdateCoincidence` writes the coincidence to STAT bit 2, remembers it, and changes nothing else of the PPU. -/
theorem updateCoincidence_ppu (x : Ppu × Irq) :
    (updateCoincidence x).1 =
      { x.1 with stat := (updateCoincidence x).1.stat, prevCoin := decide (x.1.ly = x.1.lyc) } ∧
    (updateCoincidence x).1.stat.getLsbD 2 = decide (x.1.ly = x.1.lyc) ∧
    (updateCoincidence x).1.stat &&& 0xFB#8 = x.1.stat &&& 0xFB#8 := by
  refine ⟨rfl, ?_, replaced_and_mask _ _ _ ?_⟩
  · have hcleared : (x.1.stat &&& 0xFB#8).getLsbD 2 = false := (BitVec.getLsbD_and ..).trans (Bool.and_false _)
    rw [updateCoincidence, BitVec.getLsbD_or, hcleared]
    cases decide (x.1.ly = x.1.lyc) <;> rfl
  · split <;> rfl

/-- Settles O45. -/
theorem statUpdates : Obligations.StatUpdates := by
  intro p q pos m y coin z
  obtain ⟨hmodePpu, hmode, hmodeOther⟩ := updateMode_ppu (p, q)
  obtain ⟨hcoinPpu, hcoin, hcoinOther⟩ := updateCoincidence_ppu (p, q)
  refine ⟨⟨hmodePpu, hmode, hmodeOther, ?_⟩, hcoinPpu, hcoin, hcoinOther, ?_⟩
  · simp only [← statEnable_iff]
    exact updateMode_irq (p, q) rfl
  · show (if (coin && !p.prevCoin && bit p.stat 6) = true then _ else _) = _
    simp only [Bool.and_eq_true, Bool.not_eq_true', and_assoc]
    rfl

/-! ### How a tick with the LCD on ends (R402) -/

/-- The two updates of STAT, with which a tick ends. -/
def updateStat (x : Ppu × Irq) : Ppu × Irq := updateCoincidence (updateMode x)

theorem updateStat_ppu (x : Ppu × Irq) :
    (updateStat x).1 = { x.1 with stat := (updateStat x).1.stat, prevCoin := decide (x.1.ly = x.1.lyc) } := by
  have hcoin := (updateCoincidence_ppu (updateMode x)).1
  rw [(updateMode_ppu x).1] at hcoin
  exact hcoin

/-- The coincidence remembered, and STAT bit 2, are those of LY and LYC. -/
theorem updateStat_coincidence (x : Ppu × Irq) :
    (updateStat x).1.prevCoin = decide ((updateStat x).1.ly = (updateStat x).1.lyc) ∧
    (updateStat x).1.stat.getLsbD 2 = (updateStat x).1.prevCoin := by
  refine ⟨?_, (updateCoincidence_ppu (updateMode x)).2.1⟩
  rw [updateStat_ppu]

theorem updateMode_raises (x : Ppu × Irq) : (updateMode x).2 = x.2.raise .lcdStat ∨ (updateMode x).2 = x.2 := by
  rw [updateMode_irq x rfl]
  exact ite_eq_or_eq ..

theorem updateCoincidence_raises (x : Ppu × Irq) :
    (updateCoincidence x).2 = x.2.raise .lcdStat ∨ (updateCoincidence x).2 = x.2 :=
  ite_eq_or_eq ..

/-- The updates of STAT request LCD STAT, once, or nothing. -/
theorem updateStat_raises (x : Ppu × Irq) : (updateStat x).2 = x.2.raise .lcdStat ∨ (updateStat x).2 = x.2 := by
  rcases updateMode_raises x with hmode | hmode <;>
    rcases updateCoincidence_raises (updateMode x) with hcoin | hcoin <;> rw [updateStat, hcoin, hmode]
  · exact .inl (raise_raise ..)
  · exact .inl rfl
  · exact .inl rfl
  · exact .inr rfl

theorem updateStat_vblank (x : Ppu × Irq) : (updateStat x).2.request.getLsbD 0 = x.2.request.getLsbD 0 := by
  rcases updateStat_raises x with h | h <;> rw [h]
  exact (raise_request_getLsbD .lcdStat x.2 0).trans (Bool.or_false _)

/-- The updates of STAT keep the counters, the pictures and the VBlank request. -/
theorem updateStat_keeps (x : Ppu × Irq) :
    (updateStat x).1.budget = x.1.budget ∧ (updateStat x).1.ly = x.1.ly ∧ (updateStat x).1.fb = x.1.fb ∧
    (updateStat x).1.code = x.1.code ∧ (updateStat x).1.frameReady = x.1.frameReady ∧
    (updateStat x).2.request.getLsbD 0 = x.2.request.getLsbD 0 := by
  refine ⟨?_, ?_, ?_, ?_, ?_, updateStat_vblank x⟩ <;> rw [updateStat_ppu]

/-! ### The scanline counter (R402, R405) -/

/-- The PPU as a tick counts the end of its line: the counter filled, LY advanced, a line drawn, a frame signalled. -/
def Ppu.nextLine (mem : Memory) (p : Ppu) : Ppu :=
  let next := (p.ly.toNat + 1) % 154
  let drawn := decide (p.ly.toNat + 1 < 144)
  { p with
    budget := 456
    ly := BitVec.ofNat 8 next
    fb := if drawn then p.fb.set next (p.pixelRow mem next) else p.fb
    code := if drawn then p.code.set next (p.codeRow mem next) else p.code
    frameReady := p.frameReady || decide (next = 144) }

/-- The end of a line, by its successor: a line to draw, line 144, another line of the blanking, or line 0. -/
theorem lineEnd_eq (mem : Memory) {p : Ppu} (q : Irq) (h : p.ly.toNat ≤ 153) :
    lineEnd mem (p, q) = (p.nextLine mem, if (p.ly.toNat + 1) % 154 = 144 then q.raise .vblank else q) := by
  have hsucc : p.ly + 1#8 = BitVec.ofNat 8 (p.ly.toNat + 1) := by bv_omega
  have hnext : (p.ly + 1#8).toNat = p.ly.toNat + 1 := by bv_omega
  simp only [lineEnd, Ppu.nextLine, hnext, decide_eq_true_eq]
  by_cases hwrap : p.ly.toNat + 1 = 154
  · simp [hwrap]
  rw [Nat.mod_eq_of_lt (by omega : p.ly.toNat + 1 < 154), if_neg hwrap, hsucc]
  by_cases hdrawn : p.ly.toNat + 1 < 144
  · have hframe : ¬ p.ly.toNat + 1 = 144 := by omega
    simp only [if_pos hdrawn, if_neg hframe, decide_eq_false hframe, Bool.or_false]
    rfl
  · by_cases hframe : p.ly.toNat + 1 = 144 <;> simp [hdrawn, hframe]

theorem ppuTick_of_off (mem : Memory) (x : Ppu × Irq) (h : x.1.lcdc.getLsbD 7 = false) : ppuTick mem x = x :=
  if_neg (Bool.eq_false_iff.1 h)

theorem ppuTick_of_on (mem : Memory) (x : Ppu × Irq) (h : x.1.lcdc.getLsbD 7 = true) :
    ppuTick mem x = updateStat
      (if x.1.budget - 1 = 0 then lineEnd mem x else ({ x.1 with budget := x.1.budget - 1 }, x.2)) :=
  if_pos h

theorem ppuTick_withinLine (mem : Memory) {p : Ppu} (q : Irq) (hon : p.lcdc.getLsbD 7 = true)
    (hbudget : 2 ≤ p.budget) : ppuTick mem (p, q) = updateStat ({ p with budget := p.budget - 1 }, q) := by
  rw [ppuTick_of_on mem (p, q) hon, if_neg (Nat.sub_ne_zero_of_lt hbudget)]

theorem ppuTick_lineEnd (mem : Memory) {p : Ppu} (q : Irq) (hon : p.lcdc.getLsbD 7 = true) (hbudget : p.budget = 1)
    (hly : p.ly.toNat ≤ 153) : ppuTick mem (p, q) =
      updateStat (p.nextLine mem, if (p.ly.toNat + 1) % 154 = 144 then q.raise .vblank else q) := by
  rw [ppuTick_of_on mem (p, q) hon, if_pos (Nat.sub_eq_zero_of_le hbudget.le), lineEnd_eq mem q hly]

theorem ppuTick_coincidence (mem : Memory) (x : Ppu × Irq) (hon : x.1.lcdc.getLsbD 7 = true) :
    (ppuTick mem x).1.prevCoin = decide ((ppuTick mem x).1.ly = (ppuTick mem x).1.lyc) ∧
    (ppuTick mem x).1.stat.getLsbD 2 = (ppuTick mem x).1.prevCoin := by
  rw [ppuTick_of_on mem x hon]
  exact updateStat_coincidence _

/-! ### What a tick leaves unchanged -/

/-- What the program alone sets: LCDC, the scroll, window and palette registers, LYC, STAT bits 7 to 3 (R37 to R40). -/
def Ppu.programmed (p : Ppu) :=
  (p.lcdc, p.scy, p.scx, p.lyc, p.bgp, p.obp0, p.obp1, p.wy, p.wx, p.stat &&& 0xF8#8)

theorem programmed_eq_iff (p p' : Ppu) : p.programmed = p'.programmed ↔
    p.lcdc = p'.lcdc ∧ p.scy = p'.scy ∧ p.scx = p'.scx ∧ p.lyc = p'.lyc ∧ p.bgp = p'.bgp ∧ p.obp0 = p'.obp0 ∧
    p.obp1 = p'.obp1 ∧ p.wy = p'.wy ∧ p.wx = p'.wx ∧ p.stat &&& 0xF8#8 = p'.stat &&& 0xF8#8 := by
  simp only [Ppu.programmed, Prod.mk.injEq]

/-- From q to q' no request is withdrawn, none but VBlank and LCD STAT is made, and IE is kept. -/
def PpuRequests (q q' : Irq) : Prop :=
  q'.enable = q.enable ∧ ∀ k : Nat, (2 ≤ k → q'.request.getLsbD k = q.request.getLsbD k) ∧
    (q.request.getLsbD k = true → q'.request.getLsbD k = true)

theorem PpuRequests.refl (q : Irq) : PpuRequests q q := ⟨rfl, fun _ => ⟨fun _ => rfl, id⟩⟩

theorem PpuRequests.trans {q q' q'' : Irq} (h : PpuRequests q q') (h' : PpuRequests q' q'') : PpuRequests q q'' := by
  obtain ⟨henable, hbits⟩ := h
  obtain ⟨henable', hbits'⟩ := h'
  refine ⟨henable'.trans henable, fun k => ?_⟩
  obtain ⟨hkept, hset⟩ := hbits k
  obtain ⟨hkept', hset'⟩ := hbits' k
  exact ⟨fun hk => (hkept' hk).trans (hkept hk), hset' ∘ hset⟩

theorem ppuRequests_raise {n : Source} (hn : n.num < 2) (q : Irq) : PpuRequests q (q.raise n) := by
  refine ⟨rfl, fun k => ⟨fun hk => ?_, fun hset => ?_⟩⟩
  · rw [raise_request_getLsbD, decide_eq_false (hn.trans_le hk).ne', Bool.or_false]
  · rw [raise_request_getLsbD, hset, Bool.true_or]

theorem lineEnd_frame (mem : Memory) (x : Ppu × Irq) :
    (lineEnd mem x).1.programmed = x.1.programmed ∧ PpuRequests x.2 (lineEnd mem x).2 := by
  unfold lineEnd
  dsimp only
  split
  · exact ⟨rfl, .refl _⟩
  · split
    · exact ⟨rfl, ppuRequests_raise (by decide) _⟩
    · split <;> exact ⟨rfl, .refl _⟩

/-- Together the updates of STAT write its bits 2:0 and request LCD STAT. -/
theorem updateStat_frame (x : Ppu × Irq) :
    (updateStat x).1.programmed = x.1.programmed ∧ PpuRequests x.2 (updateStat x).2 := by
  have hstat : (updateStat x).1.stat &&& 0xF8#8 = x.1.stat &&& 0xF8#8 := calc
    (updateStat x).1.stat &&& 0xF8#8 = (updateMode x).1.stat &&& 0xF8#8 :=
      and_eq_and_of_submask (mask := 0xFB#8) rfl (updateCoincidence_ppu (updateMode x)).2.2
    _ = x.1.stat &&& 0xF8#8 := and_eq_and_of_submask (mask := 0xFC#8) rfl (updateMode_ppu x).2.2
  constructor
  · rw [Ppu.programmed, hstat, updateStat_ppu]
    rfl
  · rcases updateStat_raises x with h | h <;> rw [h]
    · exact ppuRequests_raise (by decide) x.2
    · exact .refl x.2

theorem ppuTick_frame (mem : Memory) (x : Ppu × Irq) :
    (ppuTick mem x).1.programmed = x.1.programmed ∧ PpuRequests x.2 (ppuTick mem x).2 := by
  cases hon : x.1.lcdc.getLsbD 7 with
  | false =>
    rw [ppuTick_of_off mem x hon]
    exact ⟨rfl, .refl _⟩
  | true =>
    have hchain : ∀ y : Ppu × Irq, y.1.programmed = x.1.programmed ∧ PpuRequests x.2 y.2 →
        (updateStat y).1.programmed = x.1.programmed ∧ PpuRequests x.2 (updateStat y).2 := fun y h =>
      ⟨(updateStat_frame y).1.trans h.1, h.2.trans (updateStat_frame y).2⟩
    rw [ppuTick_of_on mem x hon]
    refine hchain _ ?_
    split
    · exact lineEnd_frame mem x
    · exact ⟨rfl, .refl _⟩

/-! ### One tick -/

/-- A VBlank request made on a condition is seen in IF bit 0. -/
theorem raiseIf_vblank (c : Prop) [Decidable c] (q : Irq) :
    (if c then q.raise .vblank else q).request.getLsbD 0 = (q.request.getLsbD 0 || decide c) := by
  by_cases h : c
  · rw [if_pos h, raise_request_getLsbD, decide_eq_true h]
    rfl
  · rw [if_neg h, decide_eq_false h, Bool.or_false]

/-- Settles O44, whose name the tick itself has: the two ways a tick counts, each followed by `updateStat`. -/
theorem ppuTick_spec : Obligations.PpuTick := by
  intro mem p q y
  obtain ⟨hprogrammed, hrequests⟩ := ppuTick_frame mem (p, q)
  obtain ⟨hlcdc, hscy, hscx, hlyc, hbgp, hobp0, hobp1, hwy, hwx, hstat⟩ := (programmed_eq_iff _ _).1 hprogrammed
  refine ⟨fun hoff => ppuTick_of_off mem (p, q) hoff, fun hon hbudget => ?_, fun hon hbudget hly => ?_, fun hon => ?_,
    hlcdc, hscy, hscx, hlyc, hbgp, hobp0, hobp1, hwy, hwx, hstat, hrequests⟩
  · have hy : y = updateStat ({ p with budget := p.budget - 1 }, q) := ppuTick_withinLine mem q hon hbudget
    rw [hy]
    exact ⟨rfl, updateStat_keeps _⟩
  · intro next drawn counted
    have hy : y = updateStat (counted, if next = 144 then q.raise .vblank else q) :=
      ppuTick_lineEnd mem q hon hbudget hly
    have hframe : decide (next = 144) = decide (p.ly.toNat = 143) := decide_eq_decide.2 (by omega)
    rw [hy, ← hframe]
    obtain ⟨hbudget', hly', hfb, hcode, hready, hvblank⟩ :=
      updateStat_keeps (counted, if next = 144 then q.raise .vblank else q)
    refine ⟨rfl, hbudget', ?_, hfb, hcode, hready, hvblank.trans (raiseIf_vblank _ q)⟩
    rw [hly']
    exact Nat.mod_eq_of_lt (by omega)
  · rw [← hlyc]
    exact ppuTick_coincidence mem (p, q) hon

end Sys2Proof.Machine
end

section
/-! PROOFS. The encoding of the instruction set as a whole (spec/30_encoding.md sections 1 to 3): decoding and encoding
undo each other, and every byte begins an instruction of a length it fixes. -/

namespace Sys2Proof.Machine

/-! ### `decode` by the number of operand bytes (R140, R147) -/

theorem decode_of_operandBytes_zero {op : Byte} (h : operandBytes op = 0) (rest : List Byte) :
    decode (op :: rest) = .ok (decodeOp op 0x00#8 0x00#8, rest) := by
  simp only [decode, h]

theorem decode_of_operandBytes_one {op : Byte} (h : operandBytes op = 1) (b1 : Byte) (rest : List Byte) :
    decode (op :: b1 :: rest) = .ok (decodeOp op b1 0x00#8, rest) := by
  simp only [decode, h]

theorem decode_of_operandBytes_two {op : Byte} (h : operandBytes op = 2) (b1 b2 : Byte) (rest : List Byte) :
    decode (op :: b1 :: b2 :: rest) = .ok (decodeOp op b1 b2, rest) := by
  simp only [decode, h]

theorem operandBytes_le (op : Byte) : operandBytes op ≤ 2 := by
  revert op
  decide

/-- Bytes that decode are an opcode, the bytes it asks for, and the rest. -/
theorem decode_eq_ok_cases {bs : List Byte} {i : Instr} {rest : List Byte} (h : decode bs = .ok (i, rest)) :
    ∃ op, (operandBytes op = 0 ∧ i = decodeOp op 0x00#8 0x00#8 ∧ bs = op :: rest) ∨
      (operandBytes op = 1 ∧ ∃ b1, i = decodeOp op b1 0x00#8 ∧ bs = op :: b1 :: rest) ∨
      (operandBytes op = 2 ∧ ∃ b1 b2, i = decodeOp op b1 b2 ∧ bs = op :: b1 :: b2 :: rest) := by
  unfold decode at h
  split at h
  · cases h
  next op tail =>
    refine ⟨op, ?_⟩
    split at h
    next hlen => cases h; exact .inl ⟨hlen, rfl, rfl⟩
    next b1 _ hlen => cases h; exact .inr (.inl ⟨hlen, b1, rfl, rfl⟩)
    next b1 b2 _ hlen => cases h; exact .inr (.inr ⟨hlen, b1, b2, rfl, rfl⟩)
    next => cases h

/-- What decodes, decodes alike before any bytes that follow. -/
theorem decode_append {bs : List Byte} {i : Instr} {tail : List Byte} (h : decode bs = .ok (i, tail))
    (rest : List Byte) : decode (bs ++ rest) = .ok (i, tail ++ rest) := by
  obtain ⟨op, ⟨hlen, rfl, rfl⟩ | ⟨hlen, b1, rfl, rfl⟩ | ⟨hlen, b1, b2, rfl, rfl⟩⟩ := decode_eq_ok_cases h
  · exact decode_of_operandBytes_zero hlen _
  · exact decode_of_operandBytes_one hlen b1 _
  · exact decode_of_operandBytes_two hlen b1 b2 _

/-! ### Decoding what `encode` gives (R146, R150, R151) -/

/-- An instruction's own bytes decode to it and to nothing more; a word operand is put together again from its bytes. -/
theorem decode_encode (i : Instr) : decode (encode i) = .ok (i, []) := by
  cases i
  case ld_bc_nn nn | ld_de_nn nn | ld_hl_nn nn | ld_sp_nn nn | ld_mNn_sp nn | ld_mNn_a nn | ld_a_mNn nn | jp_nn nn |
      jp_nz_nn nn | jp_z_nn nn | jp_nc_nn nn | jp_c_nn nn | call_nn nn | call_nz_nn nn | call_z_nn nn | call_nc_nn nn |
      call_c_nn nn =>
    exact Laws.RoundTrip.word_back nn _ rfl
  all_goals rfl

/-- Settles O1: the bytes of the instruction decode to it, whatever follows. -/
theorem decodeEncodeAgree : Obligations.DecodeEncodeAgree :=
  fun i rest _ => decode_append (decode_encode i) rest

/-! ### Encoding what `decode` gives (R143, R147, R150, R151) -/

/-- A byte is put together from its fields x, y and z (R143). -/
theorem opcode_fields (op : Byte) : opcode (64 * fieldX op + 8 * (fieldY op).num + (fieldZ op).num) = op := by
  revert op
  decide

/-- A property of all bytes is one of every choice of the three fields. -/
theorem forall_opcode {P : Byte → Prop} (h : ∀ x < 4, ∀ y z : Sel3, P (opcode (64 * x + 8 * y.num + z.num)))
    (op : Byte) : P op :=
  opcode_fields op ▸ h (fieldX op) (field_lt op 6 2) (fieldY op) (fieldZ op)

/-- The first-level map loses nothing: the encoding is the opcode and the operand bytes it asks for (R150). -/
theorem encode_decodeBase (b1 b2 : Byte) : ∀ op ≠ prefixCb, encode (decodeBase op b1 b2) =
    op :: if operandBytes op = 2 then [loByte (cat b2 b1), hiByte (cat b2 b1)] else [b1].take (operandBytes op) := by
  refine forall_opcode fun x hx y z h => ?_
  interval_cases x <;> cases y <;> cases z <;> first | rfl | exact absurd rfl h

/-- The second-level map loses nothing (R151). -/
theorem encode_decodeCb (b1 : Byte) : encode (decodeCb b1) = [prefixCb, b1] := by
  revert b1
  refine forall_opcode fun x hx y z => ?_
  interval_cases x <;> cases y <;> cases z <;> rfl

/-- Both maps together: the encoding is the opcode and as many of the two bytes after it as it asks for (R147). -/
theorem encode_decodeOp (op b1 b2 : Byte) : encode (decodeOp op b1 b2) = op :: [b1, b2].take (operandBytes op) := by
  by_cases hcb : op = prefixCb
  · subst hcb
    exact encode_decodeCb b1
  · rw [decodeOp, if_neg hcb, encode_decodeBase b1 b2 op hcb, loByte_cat, hiByte_cat]
    have hlen := operandBytes_le op
    interval_cases operandBytes op <;> rfl

/-- Settles O2: the bytes consumed are the opcode and those it asks for, and so is the encoding. -/
theorem encodeDecodeAgree : Obligations.EncodeDecodeAgree := by
  intro bs i rest h
  obtain ⟨op, ⟨hlen, rfl, rfl⟩ | ⟨hlen, b1, rfl, rfl⟩ | ⟨hlen, b1, b2, rfl, rfl⟩⟩ := decode_eq_ok_cases h
  all_goals rw [encode_decodeOp, hlen]; rfl

/-- Settles O3: the length is the opcode and the bytes it asks for. -/
theorem everyByteBeginsAnInstruction : Obligations.EveryByteBeginsAnInstruction := by
  intro op
  have hlen := operandBytes_le op
  refine ⟨operandBytes op + 1, by omega, by omega, by rintro rfl; rfl, fun b1 b2 rest => ?_⟩
  match hn : operandBytes op with
  | 0 => exact ⟨_, rfl, decode_of_operandBytes_zero hn _⟩
  | 1 => exact ⟨_, rfl, decode_of_operandBytes_one hn b1 _⟩
  | 2 => exact ⟨_, rfl, decode_of_operandBytes_two hn b1 b2 _⟩
  | n + 3 => omega

/-- Settles O4: each word is concrete, so the decoder computes its instruction. -/
theorem decodesSpecWords : Obligations.DecodesSpecWords :=
  ⟨rfl, rfl, rfl, rfl, rfl, rfl, rfl, rfl, rfl, rfl, rfl, rfl, rfl, rfl, rfl, rfl⟩

end Sys2Proof.Machine
end

section
/-! PROOFS. The invariant: every constructed machine meets it and every step keeps it (spec/10_state.md,
spec/60_exceptions.md section 4, spec/70_reset_and_hazards.md section 1). -/

namespace Sys2Proof.Machine

/-! ### Constructed machines (R70 to R72, R100, R500) -/

theorem mbcOk_atReset {cart : Cart} {hd : Header} (h : parseHeader cart = .ok hd) : MbcOk (Mbc.atReset hd) := by
  obtain ⟨-, -, -, hrom, -⟩ := (parseHeader_eq_ok_iff cart hd).1 h
  obtain ⟨-, hbanks⟩ := (romBanksOfCode_eq_some_iff _ _).1 hrom
  have htwo : 2 ≤ hd.romBanks := by
    rw [hbanks]
    exact Nat.le_mul_of_pos_right 2 (Nat.two_pow_pos _)
  exact
    { banks := htwo
      rom := htwo
      ram := Nat.zero_lt_one.trans_le (le_max_right ..)
      romOnly := fun _ => ⟨rfl, rfl⟩
      mode := nofun }

theorem ppuOk_of_blank {p : Ppu} (hly : p.ly = 0x00#8) (hbudget : p.budget = 456) (hfb : p.fb = frameBlank)
    (hcode : p.code = codeBlank) : PpuOk p where
  line := by rw [hly]; decide
  budgetLow := by omega
  budgetHigh := by omega
  rows := by rw [hfb]; exact List.length_replicate
  width := by
    rw [hfb]
    intro row hrow
    rw [List.eq_of_mem_replicate hrow, List.length_replicate]
  codeRows := by rw [hcode]; exact List.length_replicate
  codeWidth := by
    rw [hcode]
    intro row hrow
    rw [List.eq_of_mem_replicate hrow, List.length_replicate]

/-- The registers of the two resets differ; the counters are the same (R450). -/
theorem apuOk_atReset {par : Params} (h : par.wellFormed = true) {a : Apu} (ha : a = Apu.cold ∨ a = Apu.skipBoot) :
    ApuOk par a := by
  rcases ha with rfl | rfl
  all_goals exact
    { pulse1 := by constructor <;> decide
      pulse2 := by constructor <;> decide
      sweep := by constructor <;> decide
      wave := by constructor <;> decide
      noise := by constructor <;> decide
      nr52 := by decide
      counter := by decide
      step := by decide
      acc := samplePeriod_pos h
      buf := audioBuf_pos h }

/-- AF after reset is one of two values, whose low nibble is 0 (R7, R22). -/
theorem afReset_low {par : Params} (h : par.wellFormed = true) : loByte par.afReset &&& 0x0F#8 = 0x00#8 := by
  have haf : par.afReset = 0x01B0#16 ∨ par.afReset = 0x0180#16 := by
    simp only [Params.wellFormed, Bool.and_eq_true, Bool.or_eq_true, beq_iff_eq] at h
    exact h.1.1.1.1.1
  rcases haf with haf | haf <;> rw [haf] <;> decide

theorem legal_skipBootWith {par : Params} {cart : Cart} {hd : Header} (rom : Memory) (script : List (List HostAction))
    (hpar : par.wellFormed = true) (hhd : parseHeader cart = .ok hd) :
    Legal (State.skipBootWith par cart rom hd script) where
  par := hpar
  cpu := ⟨afReset_low hpar, nofun, nofun⟩
  irq := ⟨show 0x01#8 &&& 0xE0#8 = 0x00#8 by decide⟩
  timer := ⟨timerPeriod_pos _, fun _ => rfl⟩
  dma := ⟨nofun⟩
  ppu := ppuOk_of_blank rfl rfl rfl rfl
  apu := apuOk_atReset hpar (.inr rfl)
  mbc := mbcOk_atReset hhd
  p1 := BitVec.zero_and
  mem := rfl
  xram := rfl

theorem legal_coldWith {par : Params} {cart : Cart} {hd : Header} (rom : Memory) (script : List (List HostAction))
    (hpar : par.wellFormed = true) (hhd : parseHeader cart = .ok hd) : Legal (State.coldWith par cart rom hd script) where
  par := hpar
  cpu := ⟨BitVec.zero_and, nofun, nofun⟩
  irq := ⟨BitVec.zero_and⟩
  timer := ⟨timerPeriod_pos _, fun _ => rfl⟩
  dma := ⟨nofun⟩
  ppu := ppuOk_of_blank rfl rfl rfl rfl
  apu := apuOk_atReset hpar (.inl rfl)
  mbc := mbcOk_atReset hhd
  p1 := BitVec.zero_and
  mem := rfl
  xram := rfl

/-- Settles O58: the machine is in one of the two reset states of a header that parses. -/
theorem constructedMachinesMeetInvariant : Obligations.ConstructedMachinesMeetInvariant := by
  intro par cart rom skip script s hpar h
  have hrom : skip = true ∨ rom ≠ none := ((construct_ok_iff ..).1 ⟨s, h⟩).2
  match skip, rom with
  | true, rom =>
    obtain ⟨hd, hhd, rfl⟩ := construct_skipBoot h
    exact ⟨legal_skipBootWith _ script hpar hhd, rfl⟩
  | false, some rom =>
    obtain ⟨hd, hhd, rfl⟩ := construct_cold h
    exact ⟨legal_coldWith rom script hpar hhd, rfl⟩
  | false, none => simp at hrom

/-- Settles O57: the reset state is the constructed machine of log entry 1. -/
theorem resetMeetsInvariant : Obligations.ResetMeetsInvariant :=
  constructedMachinesMeetInvariant Params.default Cart.blank none true [] State.reset
    (by decide) rfl

/-! ### Steps (R370, R372) -/

/-- An armed EI takes the latch away whenever it sets IME (R334). -/
theorem legal_applyArmed (armed : Bool) (i : Instr) (s : State) (h : Legal s) : Legal (applyArmed armed i s) := by
  unfold applyArmed
  split
  · exact legal_withCpu _ s h ⟨h.cpu.flags, nofun, nofun⟩
  · exact h

theorem legalNext_mapNext {f : State → State} {x : Result} (hf : ∀ s, Legal s → Legal (f s)) (h : LegalNext x) :
    LegalNext (mapNext f x) := by
  cases x with
  | next s => intro t ht; cases ht; exact hf s (h s rfl)
  | fault _ => intro t ht; cases ht
  | refused _ => intro t ht; cases ht

theorem legal_cpuStep (s : State) (h : Legal s) : LegalNext (cpuStep s) := by
  have h0 := legal_charged 0 s h
  unfold cpuStep
  dsimp only
  split
  · exact ln_complete 4 _ h0
  · exact legalNext_mapNext (legal_applyArmed _ _) (legal_exec _ _ (legal_fetchInstr _ h0))

@[simp] theorem serviceInterrupts_charged (s : State) (h : s.charged = 0) : (serviceInterrupts s).charged = 0 := by
  unfold serviceInterrupts
  split
  · exact h
  · split
    · rfl
    · exact h

theorem inv_afterStep (s : State) (h : Legal s) : Inv (afterStep s) where
  legal := legal_serviceInterrupts _ (legal_feedPeers s h)
  charged := serviceInterrupts_charged _ (feedPeers_charged s)

/-- An iteration ends with the peers fed, so with nothing charged (R370, R371). -/
theorem inv_iteration {s t : State} (h : Legal s) (ht : iteration s = .next t) : Inv t := by
  have hlegal := legal_cpuStep s h
  unfold iteration at ht
  cases hx : cpuStep s with
  | next u => rw [hx] at ht; cases ht; exact inv_afterStep u (hlegal u hx)
  | fault _ => rw [hx] at ht; cases ht
  | refused _ => rw [hx] at ht; cases ht

/-- Settles O59: the host's turn keeps the invariant, and an iteration leaves it from any legal state. -/
theorem stepKeepsInvariant : Obligations.StepKeepsInvariant := by
  rintro s t ⟨hlegal, hcharged⟩ ht
  by_cases hstop : s.port.runState = .stopRequested
  · cases (step_of_stopped s hstop).symm.trans ht
    exact ⟨hlegal, hcharged⟩
  · rw [step_of_notStopped s hstop] at ht
    split at ht
    · exact inv_iteration (legal_hostTurn s hlegal) ht
    · cases ht
      exact ⟨legal_hostTurn s hlegal, (hostTurn_charged s).trans hcharged⟩

end Sys2Proof.Machine
end

section
/-! PROOFS. The family of spec/62_apu.md, first part: the frequency timers (R452 to R454), the frame sequencer and its
ticks (R460 to R463), the length property of section 6. -/

namespace Sys2Proof.Machine

/-! ### Fields of a byte -/

theorem field_eq (v : Byte) (lo len : Nat) : field v lo len = v.toNat / 2 ^ lo % 2 ^ len := by
  rw [field, Nat.shiftRight_eq_div_pow]

/-- A field that ends at bit 7 needs no reduction. -/
theorem field_high (v : Byte) {lo len : Nat} (h : lo + len = 8) : field v lo len = v.toNat / 2 ^ lo := by
  rw [field_eq, Nat.mod_eq_of_lt]
  rw [Nat.div_lt_iff_lt_mul (Nat.two_pow_pos lo), ← Nat.pow_add, Nat.add_comm len, h]
  exact v.isLt

/-! ### A timer that counts down (R452 to R454) -/

/-- The parts of a countdown: `tick` counts the timer down while it is above 1, and otherwise reloads it. -/
structure CountsDown {α : Type} (timer : α → Nat) (setTimer : Nat → α → α) (tick reload : α → α) : Prop where
  timer_set : ∀ n x, timer (setTimer n x) = n
  set_set : ∀ m n x, setTimer m (setTimer n x) = setTimer m x
  set_timer : ∀ x, setTimer (timer x) x = x
  reload_set : ∀ n x, reload (setTimer n x) = reload x
  tick_eq : ∀ x, tick x = if 1 < timer x then setTimer (timer x - 1) x else reload x

namespace CountsDown

variable {α : Type} {timer : α → Nat} {setTimer : Nat → α → α} {tick reload : α → α}

/-- Before its end a countdown changes the timer alone. -/
theorem iterate_lt (h : CountsDown timer setTimer tick reload) (x : α) (k : Nat) (hk : k < timer x) :
    iterate tick k x = setTimer (timer x - k) x := by
  induction k with
  | zero => exact (h.set_timer x).symm
  | succ k ih =>
    rw [iterate_succ, ih (Nat.lt_of_succ_lt hk), h.tick_eq, h.timer_set, if_pos (by omega), h.set_set, Nat.sub_sub]

/-- A timer that holds P ends after P ticks, one that holds 0 at the first. -/
theorem iterate_max (h : CountsDown timer setTimer tick reload) (x : α) :
    iterate tick (max (timer x) 1) x = reload x := by
  by_cases hpos : timer x = 0
  · rw [hpos]
    exact (h.tick_eq x).trans (if_neg (by omega))
  · obtain ⟨k, hk⟩ : ∃ k, timer x = k + 1 := Nat.exists_eq_succ_of_ne_zero hpos
    have hmax : max (timer x) 1 = k + 1 := by omega
    rw [hmax, iterate_succ, h.iterate_lt x k (by omega), h.tick_eq, h.timer_set, if_neg (by omega), h.reload_set]

end CountsDown

theorem pulse_countsDown : CountsDown Pulse.timer (fun n c => { c with timer := n }) Pulse.tick
    fun c => { c with timer := c.period, duty := (c.duty + 1) % 8 } :=
  ⟨fun _ _ => rfl, fun _ _ _ => rfl, fun _ => rfl, fun _ _ => rfl, fun _ => rfl⟩

theorem wave_countsDown : CountsDown Wave.timer (fun n c => { c with timer := n }) Wave.tick
    fun c => { c with timer := c.period, pos := (c.pos + 1) % 32 } :=
  ⟨fun _ _ => rfl, fun _ _ _ => rfl, fun _ => rfl, fun _ _ => rfl, fun _ => rfl⟩

theorem noise_countsDown : CountsDown Noise.timer (fun n c => { c with timer := n }) Noise.tick
    fun c => { c with timer := c.period, lfsr := lfsrStep (bit c.nr43 3) c.lfsr } :=
  ⟨fun _ _ => rfl, fun _ _ _ => rfl, fun _ => rfl, fun _ _ => rfl, fun _ => rfl⟩

/-- The divisors are 8 and then the multiples of 16; the shift is a power of two (R454). -/
theorem noisePeriod_eq (c : Noise) : c.period =
    (if c.nr43.toNat % 8 = 0 then 8 else 16 * (c.nr43.toNat % 8)) * 2 ^ (c.nr43.toNat / 16) := by
  have hdivisor : ∀ code < 8, noiseDivisor code = if code = 0 then 8 else 16 * code := by decide
  rw [Noise.period, Nat.shiftLeft_eq, hdivisor _ (field_lt c.nr43 0 3), field_high c.nr43 (by decide : 4 + 4 = 8)]
  rfl

/-- A feedback bit is one bit of the register, if it is set (R454). -/
theorem ite_twoPow_getLsbD (fb : Bool) (i k : Nat) (hi : i < 15) :
    (if fb then BitVec.twoPow 15 i else 0#15).getLsbD k = (fb && decide (k = i)) := by
  cases fb
  · simp
  · simp [hi, eq_comm]

/-- One step of the shift register (R454): every bit moves down, and the feedback enters at bit 14 and, in the 7-bit
mode, at bit 6. -/
theorem lfsrStep_getLsbD (narrow : Bool) (x : BitVec 15) (k : Nat) (hk : k < 15) : (lfsrStep narrow x).getLsbD k =
    if k = 14 ∨ (narrow = true ∧ k = 6) then x.getLsbD 0 ^^ x.getLsbD 1 else x.getLsbD (k + 1) := by
  have h14 : 0x4000#15 = BitVec.twoPow 15 14 := by decide
  have h6 : 0x0040#15 = BitVec.twoPow 15 6 := by decide
  have hmoved : ((x >>> 1) ||| (if x.getLsbD 0 ^^ x.getLsbD 1 then 0x4000#15 else 0#15)).getLsbD k =
      if k = 14 then x.getLsbD 0 ^^ x.getLsbD 1 else x.getLsbD (k + 1) := by
    rw [BitVec.getLsbD_or, BitVec.getLsbD_ushiftRight, h14, ite_twoPow_getLsbD _ 14 k (by decide), Nat.add_comm 1 k]
    by_cases hk14 : k = 14
    · subst hk14
      simp
    · simp [hk14]
  unfold lfsrStep
  dsimp only
  cases narrow with
  | false => simpa using hmoved
  | true =>
    rw [if_pos rfl, BitVec.getLsbD_or, BitVec.getLsbD_and, hmoved, BitVec.getLsbD_not, h6, BitVec.getLsbD_twoPow,
      ite_twoPow_getLsbD _ 6 k (by decide)]
    by_cases hk6 : k = 6
    · subst hk6
      simp
    · simp [hk6, hk, Ne.symm hk6]

/-- Settles O49: the three countdowns, and the bits of one shift-register step. -/
theorem frequencyTimers : Obligations.FrequencyTimers := by
  refine ⟨fun c => ⟨pulse_countsDown.iterate_max c, pulse_countsDown.iterate_lt c⟩,
    fun c => ⟨wave_countsDown.iterate_max c, wave_countsDown.iterate_lt c⟩,
    fun c => ⟨?_, noise_countsDown.iterate_lt c⟩, lfsrStep_getLsbD⟩
  rw [← noisePeriod_eq]
  exact noise_countsDown.iterate_max c

/-! ### The frame sequencer (R460) -/

/-- The overflow check turns channel 1 off or changes nothing. -/
theorem sweepCheck_eq (a : Apu) :
    a.sweepCheck = { a with pulse1 := { a.pulse1 with on := a.pulse1.on && !decide (2047 < a.sweep.calc) } } := by
  unfold Apu.sweepCheck
  split
  next h => simp [h]
  next h => simp [h]

theorem sweepTick_seq (q : Sequencer) (a : Apu) : Apu.sweepTick { a with seq := q } = { a.sweepTick with seq := q } := by
  unfold Apu.sweepTick
  split
  · rfl
  · dsimp only
    split
    · split
      · rfl
      · split
        · rw [sweepCheck_eq, sweepCheck_eq]; rfl
        · rfl
    · rfl

/-- The events of the sequencer do not look at its counters. -/
theorem fsEvent_seq (n : Nat) (q : Sequencer) (a : Apu) :
    Apu.fsEvent n { a with seq := q } = { Apu.fsEvent n a with seq := q } := by
  unfold Apu.fsEvent
  split
  case h_2 | h_4 => exact sweepTick_seq q a.lengthTick
  all_goals rfl

/-- Before its end the sequencer counts and does nothing else. -/
theorem iterate_tickSequencer_lt (a : Apu) (k : Nat) (hk : k < 8192 - a.seq.counter) :
    iterate Apu.tickSequencer k a = { a with seq := { a.seq with counter := a.seq.counter + k } } := by
  induction k with
  | zero => rfl
  | succ k ih =>
    rw [iterate_succ, ih (Nat.lt_of_succ_lt hk), Apu.tickSequencer, if_neg (by dsimp only; omega)]
    rfl

/-- After 8192 ticks the event of the step has run and the step has advanced. -/
theorem iterate_tickSequencer_end (a : Apu) (h : a.seq.counter < 8192) :
    iterate Apu.tickSequencer (8192 - a.seq.counter) a =
      { Apu.fsEvent a.seq.step a with seq := { counter := 0, step := (a.seq.step + 1) % 8 } } := by
  have hlast : 8192 - a.seq.counter = 8191 - a.seq.counter + 1 := by omega
  rw [hlast, iterate_succ, iterate_tickSequencer_lt a _ (by omega), Apu.tickSequencer,
    if_pos (by dsimp only; omega), fsEvent_seq]

/-! ### The ticks of the events (R461 to R463) -/

theorem lengthTick_eq (nr4 : Byte) (n : Nat) (on : Bool) : lengthTick nr4 n on =
    if nr4.getLsbD 6 = true ∧ 0 < n then (n - 1, on && decide (n - 1 ≠ 0)) else (n, on) := by
  have hoff : (if n - 1 = 0 then false else on) = (on && decide (n - 1 ≠ 0)) := by split <;> simp [*]
  simp only [lengthTick, bit, hoff, Bool.and_eq_true, decide_eq_true_eq]

theorem envelopeTick_eq (nr2 : Byte) (timer vol : Nat) : envelopeTick nr2 timer vol =
    let period := nr2.toNat % 8
    if period = 0 then (timer, vol)
    else if 1 < timer then (timer - 1, vol)
    else (period, if nr2.getLsbD 3 then (if vol < 15 then vol + 1 else vol) else (if 0 < vol then vol - 1 else vol)) := by
  have hdown : vol - 1 = if 0 < vol then vol - 1 else vol := by split <;> omega
  have hperiod : field nr2 0 3 = nr2.toNat % 8 := rfl
  simp only [envelopeTick, bit, hperiod, apply_ite (Prod.mk _), ← hdown]

/-- `SweepCalc` (R463). -/
theorem sweepCalc_eq (w : Sweep) : w.calc =
    if w.nr10.getLsbD 3 then w.shadow - w.shadow / 2 ^ (w.nr10.toNat % 8)
    else w.shadow + w.shadow / 2 ^ (w.nr10.toNat % 8) := by
  simp only [Sweep.calc, Nat.shiftRight_eq_div_pow]
  rfl

theorem sweepReload_eq (w : Sweep) :
    w.reload = if w.nr10.toNat / 16 % 8 ≠ 0 then w.nr10.toNat / 16 % 8 else 8 := by
  simp only [Sweep.reload, field_eq]
  rfl

/-- Settles O50: the sequencer by its two lemmas, each tick by its own; the parts of a tick are by definition its channels'. -/
theorem sequencerAndItsTicks : Obligations.SequencerAndItsTicks := by
  refine ⟨⟨fun a h => ⟨iterate_tickSequencer_end a h, iterate_tickSequencer_lt a⟩,
    fun a => ⟨rfl, rfl, rfl, rfl, rfl, rfl, rfl, rfl⟩⟩,
    lengthTick_eq, fun a => rfl, envelopeTick_eq, fun a => rfl, ?_⟩
  intro a period shift swept nf w
  have hperiod : field a.sweep.nr10 4 3 = period := field_eq ..
  have hshift : field a.sweep.nr10 0 3 = shift := rfl
  have hw : { a.sweep with timer := a.sweep.reload } = w := congrArg (fun n => { a.sweep with timer := n }) (sweepReload_eq _)
  have hnf : w.calc = nf := sweepCalc_eq w
  have hnext : Sweep.calc { w with shadow := nf } = swept nf := sweepCalc_eq _
  have hlow : BitVec.ofNat 8 nf = BitVec.ofNat 8 (nf % 256) := BitVec.eq_of_toNat_eq (by simp)
  rw [Apu.sweepTick]
  simp only [hw, hnf, hperiod, hshift, Bool.and_eq_true, decide_eq_true_eq]
  simp only [sweepCheck_eq, Apu.sweepCommit, Pulse.writeBack, hlow, hnext]

/-! ### The length property (section 6) -/

/-- A length tick on what it reads and writes of a channel: NRx4, the counter and the channel enable (R461). -/
def lengthStep (x : Byte × Nat × Bool) : Byte × Nat × Bool := (x.1, lengthTick x.1 x.2.1 x.2.2)

/-- What is seen of each state follows g where the state itself follows f. -/
theorem iterate_view {α β : Type} {view : α → β} {f : α → α} {g : β → β} (h : ∀ x, view (f x) = g (view x)) (n : Nat)
    (x : α) : view (iterate f n x) = iterate g n (view x) := by
  induction n generalizing x with
  | zero => rfl
  | succ n ih => exact (ih (f x)).trans (congrArg (iterate g n) (h x))

section
variable {nr4 : Byte} (henabled : nr4.getLsbD 6 = true)
include henabled

theorem lengthStep_of_enabled (n : Nat) :
    lengthStep (nr4, n + 1, true) = (nr4, n, decide (n ≠ 0)) := by
  rw [lengthStep, lengthTick_eq, if_pos ⟨henabled, Nat.succ_pos n⟩, Nat.add_sub_cancel, Bool.true_and]

/-- Before its end the counter counts down and the channel stays on. -/
theorem iterate_lengthStep_lt {most k : Nat} (hk : k < most) :
    iterate lengthStep k (nr4, most, true) = (nr4, most - k, true) := by
  induction k with
  | zero => rfl
  | succ k ih =>
    have hleft : most - k = most - (k + 1) + 1 := by omega
    rw [iterate_succ, ih (Nat.lt_of_succ_lt hk), hleft, lengthStep_of_enabled henabled, decide_eq_true (by omega)]

/-- The last tick turns the channel off. -/
theorem iterate_lengthStep_end (n : Nat) : iterate lengthStep (n + 1) (nr4, n + 1, true) = (nr4, 0, false) := by
  have hlast : n + 1 - n = 0 + 1 := by omega
  rw [iterate_succ, iterate_lengthStep_lt henabled n.lt_succ_self, hlast, lengthStep_of_enabled henabled]
  rfl

/-- A channel of which the length tick is `lengthStep`, on and with the counter full, goes off on the tick of its maximum. -/
theorem goesOff_of_lengthStep {α : Type} {view : α → Byte × Nat × Bool} {tick : α → α}
    (htick : ∀ x, view (tick x) = lengthStep (view x)) {d : α} {n : Nat} (hd : view d = (nr4, n + 1, true)) :
    (∀ k, k < n + 1 → (view (iterate tick k d)).2.2 = true ∧ (view (iterate tick k d)).2.1 = n + 1 - k) ∧
    (view (iterate tick (n + 1) d)).2.2 = false := by
  refine ⟨fun k hk => ?_, ?_⟩
  · rw [iterate_view htick, hd, iterate_lengthStep_lt henabled hk]
    exact ⟨rfl, rfl⟩
  · rw [iterate_view htick, hd, iterate_lengthStep_end henabled]

end

/-- Settles O52: the three channels see their length ticks alike. -/
theorem lengthCounterTurnsOff : Obligations.LengthCounterTurnsOff := by
  refine ⟨fun c henabled hon => ?_, fun c henabled hon => ?_, fun c henabled hon => ?_⟩
  · exact goesOff_of_lengthStep henabled (view := fun c : Pulse => (c.nr4, c.length, c.on)) (n := 63) (fun _ => rfl)
      (congrArg (fun on => (c.nr4, 64, on)) hon)
  · exact goesOff_of_lengthStep henabled (view := fun c : Noise => (c.nr44, c.length, c.on)) (n := 63) (fun _ => rfl)
      (congrArg (fun on => (c.nr44, 64, on)) hon)
  · exact goesOff_of_lengthStep henabled (view := fun c : Wave => (c.nr34, c.length, c.on)) (n := 255) (fun _ => rfl)
      (congrArg (fun on => (c.nr34, 256, on)) hon)

end Sys2Proof.Machine
end

section
/-! PROOFS. The family of spec/62_apu.md, second part: amplitudes, mixer and sampler (R453, R455, R470, R471), and the CPU
writes of the sound registers (R44, R457, R458). -/

namespace Sys2Proof.Machine

/-! ### Amplitudes (R453, R455) -/

/-- `DUTY` as one table. -/
theorem dutyStep_eq {d : Nat} (hd : d < 4) (k : Nat) : dutyStep d k =
    ([[0, 0, 0, 0, 0, 0, 0, 1], [1, 0, 0, 0, 0, 0, 0, 1], [1, 0, 0, 0, 0, 1, 1, 1], [0, 1, 1, 1, 1, 1, 1, 0]].getD d []).getD
      k 0 := by
  interval_cases d <;> rfl

theorem dutyStep_le {d k : Nat} (hd : d < 4) (hk : k ≤ 7) : dutyStep d k ≤ 1 := by
  interval_cases d <;> interval_cases k <;> decide

theorem pulseAmp_eq (c : Pulse) : c.amp = if c.on then dutyStep (c.nr1.toNat / 64) c.duty * c.vol else 0 := by
  rw [Pulse.amp, field_high c.nr1 (by decide : 6 + 2 = 8)]
  rfl

theorem pulseAmp_le {c : Pulse} (h : PulseOk c) : c.amp ≤ 15 := by
  unfold Pulse.amp
  split
  · calc dutyStep (field c.nr1 6 2) c.duty * c.vol
      _ ≤ 1 * c.vol := Nat.mul_le_mul_right _ (dutyStep_le (field_lt ..) h.duty)
      _ ≤ 15 := by have := h.vol; omega
  · exact Nat.zero_le _

/-- A sample is the high nibble of its byte at an even position, the low one at an odd position. -/
theorem waveSample_eq (mem : Memory) (k : Nat) : waveSample mem k =
    if k % 2 = 0 then (Memory.read mem (0xFF30 + k / 2)).toNat / 16 else (Memory.read mem (0xFF30 + k / 2)).toNat % 16 := by
  rw [waveSample, field_high _ (by decide : 4 + 4 = 8)]
  rfl

theorem waveAmp_eq (mem : Memory) (c : Wave) : c.amp mem =
    if c.on = true ∧ c.nr30.getLsbD 7 = true then
      waveSample mem c.pos / 2 ^ ([4, 0, 1, 2].getD (c.nr32.toNat / 32 % 4) 0)
    else 0 := by
  have hshift : ∀ code < 4, waveShift code = [4, 0, 1, 2].getD code 0 := by decide
  simp only [Wave.amp, bit, Bool.and_eq_true, Nat.shiftRight_eq_div_pow, hshift _ (field_lt c.nr32 5 2)]
  simp only [field_eq]
  rfl

theorem waveAmp_le (mem : Memory) (c : Wave) : c.amp mem ≤ 15 := by
  have hnibble : waveSample mem c.pos ≤ 15 := by
    unfold waveSample
    split
    · exact Nat.le_of_lt_succ (field_lt _ 4 4)
    · exact Nat.le_of_lt_succ (field_lt _ 0 4)
  unfold Wave.amp
  split
  · exact (Nat.shiftRight_le ..).trans hnibble
  · exact Nat.zero_le _

theorem noiseAmp_eq (c : Noise) : c.amp = if c.on = true ∧ c.lfsr.getLsbD 0 = false then c.vol else 0 := by
  unfold Noise.amp
  cases c.on <;> cases c.lfsr.getLsbD 0 <;> simp [bitNat]

theorem noiseAmp_le {c : Noise} (h : NoiseOk c) : c.amp ≤ 15 := by
  rw [noiseAmp_eq]
  split
  · exact h.vol
  · exact Nat.zero_le _

/-! ### Mixer and sampler (R470, R471) -/

/-- A panning bit gates an amplitude as a factor. -/
theorem gated_bit (v : Byte) (i amp : Nat) : gated (bit v i) amp = amp * (v.toNat / 2 ^ i % 2) := by
  rw [← bitNat_bit]
  cases bit v i
  · exact (Nat.mul_zero _).symm
  · exact (Nat.mul_one _).symm

theorem gated_le {on : Bool} {amp n : Nat} (h : amp ≤ n) : gated on amp ≤ n := by
  cases on
  · exact Nat.zero_le _
  · exact h

theorem sideSum_le {par : Params} (mem : Memory) {a : Apu} (h : ApuOk par a) (first : Nat) : a.sideSum mem first ≤ 60 := by
  have h1 := gated_le (on := bit a.nr51 first) (pulseAmp_le h.pulse1)
  have h2 := gated_le (on := bit a.nr51 (first + 1)) (pulseAmp_le h.pulse2)
  have h3 := gated_le (on := bit a.nr51 (first + 2)) (waveAmp_le mem a.wave)
  have h4 := gated_le (on := bit a.nr51 (first + 3)) (noiseAmp_le h.noise)
  unfold Apu.sideSum
  omega

/-- The volume of a side scales by at most one. -/
theorem scaled_le {n vol : Nat} (hn : n ≤ 60) (hvol : vol < 8) : n * (vol + 1) / 8 ≤ 60 :=
  Nat.div_le_of_le_mul ((Nat.mul_le_mul hn hvol).trans_eq (by decide))

/-- Settles O53: the sides by the four amplitudes, whose sum is at most 60; the sampler is its rule by definition. -/
theorem mixerAndSampler : Obligations.MixerAndSampler := by
  refine ⟨?_, fun par mem a => ?_, by decide⟩
  · intro par mem a h duty sample amp1 amp2 amp3 amp4 side out
    have hamp1 : a.pulse1.amp = amp1 := by rw [pulseAmp_eq, dutyStep_eq (by have := a.pulse1.nr1.isLt; omega)]
    have hamp2 : a.pulse2.amp = amp2 := by rw [pulseAmp_eq, dutyStep_eq (by have := a.pulse2.nr1.isLt; omega)]
    have hamp3 : a.wave.amp mem = amp3 := by rw [waveAmp_eq, waveSample_eq]
    have hamp4 : a.noise.amp = amp4 := noiseAmp_eq a.noise
    have hside (i : Nat) : a.sideSum mem i = side i := by
      simp only [Apu.sideSum, gated_bit, hamp1, hamp2, hamp3, hamp4, side]
    have hscaled (i : Nat) {vol : Nat} (hvol : vol < 8) : side i * (vol + 1) / 8 ≤ 60 :=
      scaled_le (hside i ▸ sideSum_le mem h i) hvol
    have hleft : field a.nr50 4 3 = a.nr50.toNat / 16 % 8 := field_eq ..
    have hright : field a.nr50 0 3 = a.nr50.toNat % 8 := rfl
    have hmix : out = if a.nr52.getLsbD 7 = true then
        (BitVec.ofNat 8 (side 4 * (a.nr50.toNat / 16 % 8 + 1) / 8), BitVec.ofNat 8 (side 0 * (a.nr50.toNat % 8 + 1) / 8))
        else (0#8, 0#8) := by
      rw [← hside, ← hside, ← hleft]
      rfl
    have hleftLe := hscaled 4 (Nat.mod_lt (a.nr50.toNat / 16) (by decide : 0 < 8))
    have hrightLe := hscaled 0 (Nat.mod_lt a.nr50.toNat (by decide : 0 < 8))
    cases hmaster : a.nr52.getLsbD 7 with
    | false =>
      rw [hmix, hmaster, if_neg Bool.false_ne_true]
      exact ⟨fun _ => rfl, nofun, Nat.zero_le _, Nat.zero_le _⟩
    | true =>
      rw [hmix, hmaster, if_pos rfl, BitVec.toNat_ofNat, BitVec.toNat_ofNat,
        Nat.mod_eq_of_lt (hleftLe.trans_lt (by decide)), Nat.mod_eq_of_lt (hrightLe.trans_lt (by decide))]
      exact ⟨nofun, fun _ => ⟨rfl, rfl⟩, hleftLe, hrightLe⟩
  · simp only [Apu.tickSampler, Sampler.push]
    rfl

/-! ### CPU accesses of the I/O registers (R84, R85, R90) -/

/-- Outside a transfer a CPU write of an I/O address is the write action of its register. -/
theorem cpuWrite_ioReg {s : State} (hfree : s.dma.active = false) (a : Word) (v : Byte) (r : IoReg)
    (hr : regionOf a.toNat = .io ∧ ioRegOf a.toNat = r := by decide) : cpuWrite a v s = ioWrite r a.toNat v s := by
  obtain ⟨hregion, rfl⟩ := hr
  have hdma : ¬ dmaBlocks a s = true := by simp [dmaBlocks, hfree]
  have hppu : ¬ ppuBlocks a s = true := by simp [ppuBlocks, hregion]
  rw [cpuWrite, if_neg hdma, if_neg hppu, routeWrite, hregion]

/-! ### Triggers (R458) and the master switch (R44) -/

/-- With the trigger of channel 1 the sweep unit turns it off at once if it has a shift and the first step overflows. -/
theorem trigger1_eq (a : Apu) : a.trigger1 =
    { a with
      pulse1 := { a.pulse1.trigger with
        on := decide (a.sweep.nr10.toNat % 8 = 0 ∨ (a.sweep.trigger a.pulse1.freq).calc ≤ 2047) }
      sweep := a.sweep.trigger a.pulse1.freq } := by
  have hshift : field (a.sweep.trigger a.pulse1.freq).nr10 0 3 = a.sweep.nr10.toNat % 8 := rfl
  rw [Apu.trigger1]
  dsimp only
  rw [hshift, sweepCheck_eq]
  by_cases hzero : a.sweep.nr10.toNat % 8 = 0
  · rw [if_neg (not_not_intro hzero), decide_eq_true (.inl hzero)]
    rfl
  · have hon : decide (a.sweep.nr10.toNat % 8 = 0 ∨ (a.sweep.trigger a.pulse1.freq).calc ≤ 2047) =
        (true && !decide (2047 < (a.sweep.trigger a.pulse1.freq).calc)) := by
      simp only [hzero, false_or, Bool.true_and, ← decide_not, Nat.not_lt]
    rw [if_pos hzero, hon]
    rfl

/-- The sweep unit after the trigger, its fields as numbers. -/
theorem sweepTrigger_eq (f : Nat) (w : Sweep) : w.trigger f =
    { w with
      shadow := f
      timer := if w.nr10.toNat / 16 % 8 ≠ 0 then w.nr10.toNat / 16 % 8 else 8
      enabled := decide (w.nr10.toNat / 16 % 8 ≠ 0 ∨ w.nr10.toNat % 8 ≠ 0) } := by
  have hperiod : field w.nr10 4 3 = w.nr10.toNat / 16 % 8 := field_eq ..
  rw [Sweep.trigger, sweepReload_eq, hperiod]
  rfl

/-- The trigger of a pulse channel, its fields as numbers. -/
theorem pulseTrigger_eq (c : Pulse) : c.trigger =
    { c with
      on := true
      length := if c.length = 0 then 64 else c.length
      timer := (2048 - (c.nr4.toNat % 8 * 256 + c.nr3.toNat)) * 4
      env := c.nr2.toNat % 8
      vol := c.nr2.toNat / 16 } := by
  rw [Pulse.trigger, field_high c.nr2 (by decide : 4 + 4 = 8)]
  rfl

theorem noiseTrigger_eq (c : Noise) : c.trigger =
    { c with
      on := true
      length := if c.length = 0 then 64 else c.length
      timer := c.period
      env := c.nr42.toNat % 8
      vol := c.nr42.toNat / 16
      lfsr := 0x7FFF#15 } := by
  rw [Noise.trigger, field_high c.nr42 (by decide : 4 + 4 = 8)]
  rfl

theorem and_80 (v : Byte) : v &&& 0x80#8 = if v.getLsbD 7 then 0x80#8 else 0x00#8 := by
  revert v
  decide

theorem write52_eq (v : Byte) (a : Apu) : a.write52 v =
    if v.getLsbD 7 then { a with nr52 := 0x80#8 }
    else
      { a with
        nr52 := 0x00#8
        pulse1 := { a.pulse1 with on := false }
        pulse2 := { a.pulse2 with on := false }
        wave := { a.wave with on := false }
        noise := { a.noise with on := false } } := by
  rw [Apu.write52, and_80]
  cases h : v.getLsbD 7
  · exact if_neg (Bool.eq_false_iff.1 h)
  · exact if_pos h

theorem write14_eq (v : Byte) (a : Apu) : a.write14 v =
    (if v.getLsbD 7 then
      let f := v.toNat % 8 * 256 + a.pulse1.nr3.toNat
      let period := a.sweep.nr10.toNat / 16 % 8
      let shift := a.sweep.nr10.toNat % 8
      let swept := if a.sweep.nr10.getLsbD 3 then f - f / 2 ^ shift else f + f / 2 ^ shift
      { a with
        pulse1 := { a.pulse1 with
          nr4 := v
          on := decide (shift = 0 ∨ swept ≤ 2047)
          length := if a.pulse1.length = 0 then 64 else a.pulse1.length
          timer := (2048 - f) * 4
          env := a.pulse1.nr2.toNat % 8
          vol := a.pulse1.nr2.toNat / 16 }
        sweep := { a.sweep with
          shadow := f
          timer := if period ≠ 0 then period else 8
          enabled := decide (period ≠ 0 ∨ shift ≠ 0) } }
    else { a with pulse1 := { a.pulse1 with nr4 := v } }) := by
  simp only [Apu.write14, trigger1_eq, pulseTrigger_eq, sweepTrigger_eq, sweepCalc_eq]
  rfl

/-! ### The registers with side effects (R457) -/

/-- The sound registers whose write does more than store. -/
def sideEffectRegs : List IoReg := [.nr11, .nr14, .nr21, .nr24, .nr30, .nr31, .nr34, .nr41, .nr44, .nr52]

/-- Their writes change nothing outside the sound unit. -/
theorem ioWrite_sideEffectReg (r : IoReg) (h : r ∈ sideEffectRegs) (a : Nat) (v : Byte) (s : State) :
    ioWrite r a v s = { s with apu := (ioWrite r a v s).apu } := by
  revert r
  simp only [sideEffectRegs, List.forall_mem_cons, List.not_mem_nil, false_imp_iff, implies_true, and_true]
  exact ⟨rfl, rfl, rfl, rfl, rfl, rfl, rfl, rfl, rfl, rfl⟩

/-- Settles O51: each write by the action of its register, and that action changes the sound unit alone. -/
theorem soundRegisterWrites : Obligations.SoundRegisterWrites := by
  intro v s hfree
  refine ⟨?_, ?_, ?_, ?_, ?_, ?_, ?_, ?_, ?_, ?_, ?_⟩
  · rw [cpuWrite_ioReg hfree _ v .nr11]; rfl
  · rw [cpuWrite_ioReg hfree _ v .nr14]; exact write14_eq v s.apu
  · rw [cpuWrite_ioReg hfree _ v .nr21]; rfl
  · rw [cpuWrite_ioReg hfree _ v .nr31]; rfl
  · rw [cpuWrite_ioReg hfree _ v .nr41]; rfl
  · rw [cpuWrite_ioReg hfree _ v .nr30, Bool.and_comm]; rfl
  · rw [cpuWrite_ioReg hfree _ v .nr24]
    simp only [ioWrite, Pulse.write4, pulseTrigger_eq]
    rfl
  · rw [cpuWrite_ioReg hfree _ v .nr34]; rfl
  · rw [cpuWrite_ioReg hfree _ v .nr44]
    simp only [ioWrite, Noise.write44, noiseTrigger_eq]
    rfl
  · rw [cpuWrite_ioReg hfree _ v .nr52]; exact write52_eq v s.apu
  · have hframe (a : Word) (r : IoReg) (hr : regionOf a.toNat = .io ∧ ioRegOf a.toNat = r := by decide)
        (hmem : r ∈ sideEffectRegs := by decide) : cpuWrite a v s = { s with apu := (cpuWrite a v s).apu } := by
      rw [cpuWrite_ioReg hfree a v r hr]
      exact ioWrite_sideEffectReg r hmem _ v s
    simp only [List.forall_mem_cons, List.not_mem_nil, false_imp_iff, implies_true, and_true]
    exact ⟨hframe _ .nr11, hframe _ .nr14, hframe _ .nr21, hframe _ .nr24, hframe _ .nr30, hframe _ .nr31, hframe _ .nr34,
      hframe _ .nr41, hframe _ .nr44, hframe _ .nr52⟩

end Sys2Proof.Machine
end

section
/-! PROOFS. The family of spec/10_state.md section 3: the I/O registers as a CPU write and read meet them (R31 to R46). -/

namespace Sys2Proof.Machine

/-! ### The two accesses (R84, R85) -/

/-- Outside a transfer a CPU read of an I/O address gives the read value of its register. -/
theorem cpuRead_ioReg {s : State} (hfree : s.dma.active = false) (a : Word) (r : IoReg)
    (hr : regionOf a.toNat = .io ∧ ioRegOf a.toNat = r := by decide) : cpuRead a s = ioRead r a.toNat s := by
  obtain ⟨hregion, rfl⟩ := hr
  have hrange := (regionOf_range _).1.1 hregion
  rw [cpuRead_eq, if_neg (by simp [hfree]), if_neg (by omega), if_neg (by omega), if_neg (by omega), if_pos (by omega)]

/-- Both accesses of an I/O address outside a transfer. -/
theorem cpuAccess_ioReg {s : State} (hfree : s.dma.active = false) (a : Word) (v : Byte) (r : IoReg)
    (hr : regionOf a.toNat = .io ∧ ioRegOf a.toNat = r := by decide) :
    cpuWrite a v s = ioWrite r a.toNat v s ∧ cpuRead a s = ioRead r a.toNat s :=
  ⟨cpuWrite_ioReg hfree a v r hr, cpuRead_ioReg hfree a r hr⟩

/-- IE lies above the I/O region, and nothing blocks it outside a transfer (R36). -/
theorem cpuAccess_ie {s : State} (hfree : s.dma.active = false) (v : Byte) :
    cpuWrite 0xFFFF#16 v s = { s with irq := { s.irq with enable := v } } ∧ cpuRead 0xFFFF#16 s = s.irq.enable := by
  have hblocked : ¬ (s.dma.active = true ∧ dmaExempt s.par 0xFFFF#16 = false) := by simp [hfree]
  rw [cpuWrite_eq, cpuRead_eq, if_neg hblocked, if_neg hblocked]
  refine ⟨rfl, ?_⟩
  rw [if_neg (by simp), if_neg (by simp), if_neg (by simp), if_neg (by simp)]
  rfl

/-! ### Registers whose write or read is more than the byte -/

/-- SC (R32): the byte in SB joins the serial output when bit 7 is written. -/
theorem writeSc_eq (v : Byte) (s : State) : writeSc v s = { s with sc := v, port := { s.port with
    serialOut := if v.getLsbD 7 then s.port.serialOut ++ [s.sb] else s.port.serialOut } } := by
  unfold writeSc bit
  split <;> rfl

/-- LCDC (R37): turning the LCD off resets LY, the scanline counter and the mode. -/
theorem writeLcdc_eq (v : Byte) (p : Ppu) : p.writeLcdc v =
    if p.lcdc.getLsbD 7 = true ∧ v.getLsbD 7 = false then
      { p with lcdc := v, ly := 0#8, budget := 456, stat := p.stat &&& 0xFC#8 }
    else { p with lcdc := v } := by
  simp only [Ppu.writeLcdc, bit, Bool.and_eq_true, Bool.not_eq_true']

/-- NR52 (R44): the channel enables are the low four bits. -/
theorem read52_eq (a : Apu) : a.read52 = a.nr52 ||| 0x70#8 |||
    BitVec.ofNat 8 (8 * bitNat a.noise.on + 4 * bitNat a.wave.on + 2 * bitNat a.pulse2.on + bitNat a.pulse1.on) := by
  rw [Apu.read52, BitVec.or_assoc, BitVec.or_assoc, BitVec.or_assoc]
  congr 1
  cases a.noise.on <;> cases a.wave.on <;> cases a.pulse2.on <;> cases a.pulse1.on <;> rfl

/-! ### The registers by their addresses -/

/-- Wave RAM and the plain bytes, by their offsets (R45, R46). -/
theorem ioRegAt_ranges : ∀ off < 0x80, (0x30 ≤ off → off ≤ 0x3F → ioRegAt off = .waveRam) ∧
    (off = 0x03 ∨ (0x08 ≤ off ∧ off ≤ 0x0E) ∨ off = 0x15 ∨ off = 0x1F ∨ (0x27 ≤ off ∧ off ≤ 0x2F) ∨
      (0x4C ≤ off ∧ off ≤ 0x4F) ∨ 0x51 ≤ off → ioRegAt off = .plain) := by
  decide

/-- An address of the I/O region, as the byte at its offset. -/
theorem region_ioReg_of_offset {n : Nat} (hlo : 0xFF00 ≤ n) (hhi : n ≤ 0xFF7F) {r : IoReg}
    (h : ioRegAt (n - 0xFF00) = r) : regionOf n = .io ∧ ioRegOf n = r :=
  ⟨(regionOf_range n).1.2 ⟨hlo, by omega⟩, h⟩

/-- The read values of the sound registers (R43). -/
theorem soundReads {s : State} (hfree : s.dma.active = false) :
    [0xFF10#16, 0xFF11#16, 0xFF12#16, 0xFF13#16, 0xFF14#16].map (cpuRead · s) =
        [s.apu.sweep.nr10, s.apu.pulse1.nr1, s.apu.pulse1.nr2, s.apu.pulse1.nr3, s.apu.pulse1.nr4] ∧
      [0xFF16#16, 0xFF17#16, 0xFF18#16, 0xFF19#16].map (cpuRead · s) =
        [s.apu.pulse2.nr1, s.apu.pulse2.nr2, s.apu.pulse2.nr3, s.apu.pulse2.nr4] ∧
      [0xFF1A#16, 0xFF1B#16, 0xFF1C#16, 0xFF1D#16, 0xFF1E#16].map (cpuRead · s) =
        [s.apu.wave.nr30, s.apu.wave.nr31, s.apu.wave.nr32, s.apu.wave.nr33, s.apu.wave.nr34] ∧
      [0xFF20#16, 0xFF21#16, 0xFF22#16, 0xFF23#16, 0xFF24#16, 0xFF25#16].map (cpuRead · s) =
        [s.apu.noise.nr41, s.apu.noise.nr42, s.apu.noise.nr43, s.apu.noise.nr44, s.apu.nr50, s.apu.nr51] := by
  have read (a : Word) (r : IoReg) (hr : regionOf a.toNat = .io ∧ ioRegOf a.toNat = r := by decide) :=
    cpuRead_ioReg hfree a r hr
  refine ⟨?_, ?_, ?_, ?_⟩
  · exact congrArg₂ _ (read _ .nr10) <| congrArg₂ _ (read _ .nr11) <| congrArg₂ _ (read _ .nr12) <|
      congrArg₂ _ (read _ .nr13) <| congrArg₂ _ (read _ .nr14) rfl
  · exact congrArg₂ _ (read _ .nr21) <| congrArg₂ _ (read _ .nr22) <| congrArg₂ _ (read _ .nr23) <|
      congrArg₂ _ (read _ .nr24) rfl
  · exact congrArg₂ _ (read _ .nr30) <| congrArg₂ _ (read _ .nr31) <| congrArg₂ _ (read _ .nr32) <|
      congrArg₂ _ (read _ .nr33) <| congrArg₂ _ (read _ .nr34) rfl
  · exact congrArg₂ _ (read _ .nr41) <| congrArg₂ _ (read _ .nr42) <| congrArg₂ _ (read _ .nr43) <|
      congrArg₂ _ (read _ .nr44) <| congrArg₂ _ (read _ .nr50) <| congrArg₂ _ (read _ .nr51) rfl

/-- Settles O33: each register by its two accesses. -/
theorem ioRegisters : Obligations.IoRegisters := by
  intro v s hfree
  have access (a : Word) (r : IoReg) (hr : regionOf a.toNat = .io ∧ ioRegOf a.toNat = r := by decide) :=
    cpuAccess_ioReg hfree a v r hr
  obtain ⟨reads1, reads2, readsWave, readsNoise⟩ := soundReads hfree
  refine ⟨⟨access _ .p1, access _ .sb, ⟨(access _ .sc).1.trans (writeSc_eq v s), (access _ .sc).2⟩, access _ .div,
      access _ .tima, access _ .tma, access _ .tac, access _ .irqFlag, cpuAccess_ie hfree v⟩,
    ⟨⟨?_, (access _ .lcdc).2⟩, access _ .stat, access _ .scy, access _ .scx, access _ .ly, access _ .lyc,
      (access _ .dma).2, access _ .bgp, access _ .obp0, access _ .obp1, access _ .wy, access _ .wx, access _ .boot⟩,
    ⟨(access _ .nr10).1, (access _ .nr12).1, (access _ .nr13).1, (access _ .nr22).1, (access _ .nr23).1,
      (access _ .nr32).1, (access _ .nr33).1, (access _ .nr42).1, (access _ .nr43).1, (access _ .nr50).1,
      (access _ .nr51).1⟩,
    ⟨reads1, reads2, readsWave, readsNoise, fun _ => (access _ .nr52).2.trans (read52_eq s.apu)⟩,
    fun a => ⟨fun hlo hhi => ?_, fun hplain => ?_⟩⟩
  · have hwrite : cpuWrite 0xFF40#16 v s = { s with ppu := s.ppu.writeLcdc v } := (access _ .lcdc).1
    rw [hwrite, writeLcdc_eq]
    split <;> rfl
  · have hwave := (ioRegAt_ranges (a.toNat - 0xFF00) (by omega)).1 (by omega) (by omega)
    exact access a .waveRam (region_ioReg_of_offset (by omega) (by omega) hwave)
  · have hrest := (ioRegAt_ranges (a.toNat - 0xFF00) (by omega)).2 (by omega)
    exact access a .plain (region_ioReg_of_offset (by omega) (by omega) hrest)

end Sys2Proof.Machine
end

section
/-! PROOFS. DAA as a decimal correction (spec/42_alu8.md section 4, R248). -/

namespace Sys2Proof.Machine

theorem bcd_toNat {n : Nat} (hn : n < 100) : (bcd n).toNat = 16 * (n / 10) + n % 10 := by
  rw [bcd, BitVec.toNat_ofNat, Nat.mod_eq_of_lt (by omega)]

/-- A byte is the BCD byte of n when its number is n's digits; it is 0 only for n = 0. -/
theorem eq_bcd {b : Byte} {n : Nat} (hn : n < 100) (hb : b.toNat = 16 * (n / 10) + n % 10) :
    b = bcd n ∧ decide (b = 0#8) = decide (n = 0) := by
  refine ⟨BitVec.eq_of_toNat_eq (hb.trans (bcd_toNat hn).symm), decide_eq_decide.mpr ?_⟩
  rw [BitVec.toNat_eq, hb, BitVec.toNat_zero]
  omega

/-- The corrections after an addition, as a number. -/
theorem daaAdd_toNat (a : Byte) (h c : Bool) : (daaAdd a h c).1.toNat =
    (a.toNat + (if c || decide (0x99 < a.toNat) then 0x60 else 0) +
      (if h || decide (0x09 < a.toNat % 16) then 0x06 else 0)) % 256 := by
  simp only [daaAdd_eq, BitVec.toNat_add, apply_ite BitVec.toNat, Nat.mod_add_mod]
  rfl

/-- The corrections after a subtraction, as a number. -/
theorem daaSub_toNat (a : Byte) (h c : Bool) : (daaSub a h c).1.toNat =
    (a.toNat + 512 - (if c then 0x60 else 0) - (if h then 0x06 else 0)) % 256 := by
  rw [daaSub_eq]
  cases c <;> cases h <;> simp [BitVec.toNat_sub] <;> omega

/-- The tens t and the units l of a decimal sum: it passes 99 where the binary sum of the BCD bytes passes 0x99. -/
theorem high_carry_iff {t l : Nat} (hl : l ≤ 19) : 0x99 < 16 * t + l ↔ 99 < 10 * t + l := by
  have htens : t ≤ 8 ∨ t = 9 ∨ 10 ≤ t := by omega
  rcases htens with h | h | h <;> omega

/-- A decimal addition carries out of the low digit, and out of the high one, where DAA corrects; a missing carry into a
nibble is one the digit itself shows. -/
theorem daa_add8_bcd {x y : Nat} (c : Bool) (hx : x < 100) (hy : y < 100) :
    let r := daa (add8 (bcd x) (bcd y) c).1 (add8 (bcd x) (bcd y) c).2
    r.1 = bcd ((x + y + bitNat c) % 100) ∧ flagC r.2 = decide (99 < x + y + bitNat c) ∧
      flagZ r.2 = decide ((x + y + bitNat c) % 100 = 0) := by
  have hc : bitNat c ≤ 1 := by cases c <;> decide
  have hsum := add8_toNat (bcd x) (bcd y) c
  have hf : (add8 (bcd x) (bcd y) c).2 = packFlags (decide ((add8 (bcd x) (bcd y) c).1 = 0#8)) false
      (decide (0x0F < (bcd x).toNat % 0x10 + (bcd y).toNat % 0x10 + bitNat c))
      (decide (0xFF < (bcd x).toNat + (bcd y).toNat + bitNat c)) := rfl
  rw [bcd_toNat hx, bcd_toNat hy] at hsum hf
  generalize (add8 (bcd x) (bcd y) c).1 = a at hsum hf ⊢
  rw [hf, daa_eq]
  simp only [flagN_packFlags, flagH_packFlags, flagC_packFlags, flagZ_packFlags, Bool.false_eq_true, if_false]
  have hhigh : (decide (0xFF < 16 * (x / 10) + x % 10 + (16 * (y / 10) + y % 10) + bitNat c) || decide (0x99 < a.toNat)) =
      decide (99 < x + y + bitNat c) := by
    have hdigits := high_carry_iff (t := x / 10 + y / 10) (l := x % 10 + y % 10 + bitNat c) (by omega)
    rw [← Bool.decide_or, decide_eq_decide]
    omega
  have hlow : (decide (0x0F < (16 * (x / 10) + x % 10) % 0x10 + (16 * (y / 10) + y % 10) % 0x10 + bitNat c) ||
      decide (0x09 < a.toNat % 16)) = decide (9 < x % 10 + y % 10 + bitNat c) := by
    rw [← Bool.decide_or, decide_eq_decide]; omega
  have hres := daaAdd_toNat a (decide (0x0F < (16 * (x / 10) + x % 10) % 0x10 + (16 * (y / 10) + y % 10) % 0x10 + bitNat c))
    (decide (0xFF < 16 * (x / 10) + x % 10 + (16 * (y / 10) + y % 10) + bitNat c))
  rw [hhigh, hlow] at hres
  obtain ⟨hbyte, hzero⟩ := eq_bcd (n := (x + y + bitNat c) % 100) (by omega)
    (by rw [hres]; simp only [decide_eq_true_eq]; split_ifs <;> omega)
  exact ⟨hbyte, hhigh, hzero⟩

/-- A decimal subtraction borrows into a digit exactly where the binary one does. -/
theorem daa_sub8_bcd {x y : Nat} (c : Bool) (hx : x < 100) (hy : y < 100) :
    let r := daa (sub8 (bcd x) (bcd y) c).1 (sub8 (bcd x) (bcd y) c).2
    r.1 = bcd ((x + 200 - y - bitNat c) % 100) ∧ flagC r.2 = decide (x < y + bitNat c) ∧
      flagZ r.2 = decide ((x + 200 - y - bitNat c) % 100 = 0) := by
  have hc : bitNat c ≤ 1 := by cases c <;> decide
  have hdiff := sub8_toNat (bcd x) (bcd y) c
  have hf : (sub8 (bcd x) (bcd y) c).2 = packFlags (decide ((sub8 (bcd x) (bcd y) c).1 = 0#8)) true
      (decide ((bcd x).toNat % 0x10 < (bcd y).toNat % 0x10 + bitNat c))
      (decide ((bcd x).toNat < (bcd y).toNat + bitNat c)) := rfl
  have hlow : decide ((bcd x).toNat % 0x10 < (bcd y).toNat % 0x10 + bitNat c) =
      decide (x % 10 < y % 10 + bitNat c) := by
    rw [bcd_toNat hx, bcd_toNat hy, decide_eq_decide]; omega
  have hhigh : decide ((bcd x).toNat < (bcd y).toNat + bitNat c) = decide (x < y + bitNat c) := by
    rw [bcd_toNat hx, bcd_toNat hy, decide_eq_decide]; omega
  rw [hlow, hhigh] at hf
  rw [bcd_toNat hx, bcd_toNat hy] at hdiff
  generalize (sub8 (bcd x) (bcd y) c).1 = a at hdiff hf ⊢
  rw [hf, daa_eq]
  simp only [flagN_packFlags, flagH_packFlags, flagC_packFlags, flagZ_packFlags, if_true]
  have hres := daaSub_toNat a (decide (x % 10 < y % 10 + bitNat c)) (decide (x < y + bitNat c))
  obtain ⟨hbyte, hzero⟩ := eq_bcd (n := (x + 200 - y - bitNat c) % 100) (by omega)
    (by rw [hres]; simp only [decide_eq_true_eq]; split_ifs <;> omega)
  exact ⟨hbyte, trivial, hzero⟩

/-- Settles O16: each half by where its corrections fall. -/
theorem daaIsDecimal : Obligations.DaaIsDecimal :=
  fun _ _ c hx hy => ⟨daa_add8_bcd c hx hy, daa_sub8_bcd c hx hy⟩

end Sys2Proof.Machine
end

section
/-! PROOFS. The frames of instructions on memory and the units (spec/20_memory.md sections 1 and 2): the passing of cycles
and a change of registers first, then a charged store, then the instructions by their shared forms. -/

namespace Sys2Proof.Machine

/-! ### Cycles and registers alone -/

theorem SameButCpu.trans {s t u : State} (h : SameButCpu s t) (k : SameButCpu t u) : SameButCpu s u where
  rest := k.rest.trans (by rw [h.rest])
  enable := k.enable.trans h.enable
  requests := by
    obtain h' | h' := h.requests <;> obtain k' | k' := k.requests <;> rw [k', h']
    · exact .inl rfl
    · exact .inr rfl
    · exact .inr rfl
    · rw [BitVec.or_assoc, BitVec.or_self]
      exact .inr rfl
  tma := k.tma.trans h.tma
  tac := k.tac.trans h.tac

theorem sameButCpu_withCpu (s : State) (u : Cpu) : SameButCpu s { s with cpu := u } := ⟨rfl, rfl, .inl rfl, rfl, rfl⟩

theorem sameButCpu_timerAdvance (n : Nat) (s : State) (c : Nat) :
    SameButCpu s { timerAdvance n s with charged := c } := by
  obtain ⟨htma, htac, henable, hrequest⟩ := timerTicks_frame n (s.timer, s.irq)
  exact ⟨rfl, henable, hrequest, htma, htac⟩

theorem sameButCpu_busTick (s : State) : SameButCpu s (busTick s) := sameButCpu_timerAdvance 4 s _

theorem sameButCpu_iterate_busTick (k : Nat) (s : State) : SameButCpu s (iterate busTick k s) :=
  iterate_keeps (SameButCpu s) busTick (fun t h => h.trans (sameButCpu_busTick t)) k s ⟨rfl, rfl, .inl rfl, rfl, rfl⟩

/-- The end of an instruction that has last set its registers. -/
theorem sameButCpu_finish_withCpu (c : Nat) (s : State) (u : Cpu) : SameButCpu s (finish c { s with cpu := u }) :=
  (sameButCpu_withCpu s u).trans (sameButCpu_timerAdvance _ _ c)

theorem SameButCpu.load {s t : State} (h : SameButCpu s t) {b : Nat} (hb : timeByte b = false) :
    Machine.load b t = Machine.load b s := by
  refine SameImages.load (s := s) (t := t) ?_ b hb
  constructor
  case enable => exact h.enable
  case tma => exact h.tma
  case tac => exact h.tac
  all_goals rw [h.rest]

theorem SameButCpu.mbc {s t : State} (h : SameButCpu s t) : t.mbc = s.mbc := by rw [h.rest]

/-- Settles O26: charged reads, a change of registers, the remaining cycles. -/
theorem frameOfInstructionsThatStoreNothing : Obligations.FrameOfInstructionsThatStoreNothing := by
  intro i s t hi ht
  obtain ⟨k, c, ⟨u, hexec, -⟩, -⟩ := readsOnly_of_storesNothing s hi
  obtain rfl := Host.Outcome.next.inj (hexec.symm.trans ht)
  have hsame := (sameButCpu_iterate_busTick k s).trans (sameButCpu_finish_withCpu c _ u)
  exact ⟨hsame, fun b hb => hsame.load hb⟩

/-! ### A charged store -/

/-- The part of the state that neither time nor a store outside the I/O registers changes. -/
def AwayFromStore (s t : State) : Prop := t = { s with
  cpu := t.cpu, mem := t.mem, xram := t.xram, mbc := t.mbc, timer := t.timer, irq := t.irq, charged := t.charged }

theorem AwayFromStore.trans {s t u : State} (h : AwayFromStore s t) (k : AwayFromStore t u) : AwayFromStore s u :=
  Eq.trans k (by rw [h])

theorem SameButCpu.awayFromStore {s t : State} (h : SameButCpu s t) : AwayFromStore s t := by
  have hrest := h.rest
  unfold AwayFromStore
  rw [hrest]

theorem awayFromStore_routeWrite {a : Word} (v : Byte) (s : State) (ha : regionOf a.toNat ≠ .io) :
    AwayFromStore s (routeWrite a v s) := by
  unfold routeWrite
  cases hr : regionOf a.toNat
  case io => exact absurd hr ha
  all_goals rfl

theorem awayFromStore_memWrite {a : Word} (v : Byte) (s : State) (ha : regionOf a.toNat ≠ .io) :
    AwayFromStore s (memWrite a v s) := by
  refine (sameButCpu_busTick s).awayFromStore.trans ?_
  obtain h | h := cpuWrite_eq_or a v (busTick s)
  · rw [memWrite, h]
    rfl
  · rw [memWrite, h]
    exact awayFromStore_routeWrite v _ ha

theorem regionOf_cartridge_range (n : Nat) : (regionOf n = .xram ↔ 0xA000 ≤ n ∧ n ≤ 0xBFFF) ∧
    (0x8000 ≤ n → regionOf n ≠ .romFixed ∧ regionOf n ≠ .romBanked) := by
  rw [regionOf_eq_ite_le]
  split_ifs <;> simp <;> omega

/-- Only a write below 0x8000 reaches the controller. -/
theorem routeWrite_mbc {a : Word} (v : Byte) (s : State) (ha : 0x8000 ≤ a.toNat) : (routeWrite a v s).mbc = s.mbc := by
  obtain ⟨hfixed, hbanked⟩ := (regionOf_cartridge_range a.toNat).2 ha
  unfold routeWrite
  cases hr : regionOf a.toNat
  case romFixed => exact absurd hr hfixed
  case romBanked => exact absurd hr hbanked
  case io => exact (ioWrite_rest ..).2.1
  all_goals rfl

theorem memWrite_mbc {a : Word} (v : Byte) (s : State) (ha : 0x8000 ≤ a.toNat) : (memWrite a v s).mbc = s.mbc := by
  obtain h | h := cpuWrite_eq_or a v (busTick s)
  · rw [memWrite, h]
    rfl
  · rw [memWrite, h]
    exact routeWrite_mbc v (busTick s) ha

/-- What a store reaches depends on the controller in cartridge RAM alone. -/
theorem writeReaches_mbc {m m' : Mbc} {a b : Nat} (h : 0xA000 ≤ a → a ≤ 0xBFFF → m' = m) :
    writeReaches m' a b = writeReaches m a b := by
  unfold writeReaches
  cases hr : regionOf a
  case xram =>
    obtain ⟨hlo, hhi⟩ := (regionOf_cartridge_range a).1.1 hr
    rw [h hlo hhi]
  all_goals rfl

/-- Two charged stores, with a change of registers between them, at addresses of which the first does not switch the
bank under the second. -/
theorem frame_of_two_stores {a a' : Word} (v v' : Byte) (s : State) (u u' : Cpu)
    (hbank : 0xA000 ≤ a'.toNat → a'.toNat ≤ 0xBFFF → 0x8000 ≤ a.toNat) :
    let t := memWrite a' v' { memWrite a v { s with cpu := u } with cpu := u' }
    (∀ b : Word, writeReaches s.mbc a.toNat b.toNat = false → writeReaches s.mbc a'.toNat b.toNat = false →
      timeByte b.toNat = false → load b.toNat t = load b.toNat s) ∧
    (regionOf a.toNat ≠ .io → regionOf a'.toNat ≠ .io → AwayFromStore s t) := by
  refine ⟨fun b hb hb' htime => ?_, fun ha ha' => ?_⟩
  · have hreach := (writeReaches_mbc (b := b.toNat) fun hlo hhi =>
      memWrite_mbc v { s with cpu := u } (hbank hlo hhi)).trans hb'
    rw [load_memWrite a' v' { memWrite a v { s with cpu := u } with cpu := u' } b.toNat (by omega) htime hreach,
      load_cpu, load_memWrite a v { s with cpu := u } b.toNat (by omega) htime hb, load_cpu]
  · exact (sameButCpu_withCpu s u).awayFromStore.trans <| (awayFromStore_memWrite v _ ha).trans <|
      (sameButCpu_withCpu _ u').awayFromStore.trans (awayFromStore_memWrite v' _ ha')

/-- The end of the instruction changes no byte but those of time, and no unit but the timer. -/
theorem load_finish_withCpu (c : Nat) (s : State) (u : Cpu) {b : Nat} (hb : timeByte b = false) :
    load b (finish c { s with cpu := u }) = load b s :=
  (sameButCpu_finish_withCpu c s u).load hb

theorem AwayFromStore.finish {s t : State} (h : AwayFromStore s t) (c : Nat) (u : Cpu) :
    AwayFromStore s (finish c { t with cpu := u }) :=
  h.trans (sameButCpu_finish_withCpu c t u).awayFromStore

/-- An instruction that stores one byte. -/
theorem frame_of_storesAt {i : Instr} {a : Word} {s t : State} (hi : StoresAt s i a) (ht : exec i s = .next t) :
    (∀ b : Word, writeReaches s.mbc a.toNat b.toNat = false → timeByte b.toNat = false →
      load b.toNat t = load b.toNat s) ∧ (regionOf a.toNat ≠ .io → AwayFromStore s t) := by
  obtain ⟨k, v, u, hexec, -⟩ := storesByte_of_storesAt hi
  obtain rfl := Host.Outcome.next.inj (hexec.symm.trans ht)
  have hreads := sameButCpu_iterate_busTick k s
  refine ⟨fun b hb htime => ?_, fun ha => ?_⟩
  · rw [load_finish_withCpu _ _ u htime, load_memWrite a v _ b.toNat (by omega) htime (hreads.mbc ▸ hb), hreads.load htime]
  · exact (hreads.awayFromStore.trans (awayFromStore_memWrite v _ ha)).finish _ u

/-- An instruction that pushes a word, and a conditional one that does not. -/
theorem frame_of_pushes {i : Instr} {s t : State} (hi : Pushes i) (ht : exec i s = .next t) :
    (∀ b : Word, writeReaches s.mbc (s.cpu.sp - 1#16).toNat b.toNat = false →
      writeReaches s.mbc (s.cpu.sp - 2#16).toNat b.toNat = false → timeByte b.toNat = false →
      load b.toNat t = load b.toNat s) ∧
    (regionOf (s.cpu.sp - 1#16).toNat ≠ .io → regionOf (s.cpu.sp - 2#16).toNat ≠ .io → AwayFromStore s t) := by
  obtain ⟨c, ⟨v, u, hexec, -, -⟩ | ⟨hexec, -⟩⟩ := pushesWord_of_pushes s hi
  · obtain rfl := Host.Outcome.next.inj (hexec.symm.trans ht)
    obtain ⟨hload, haway⟩ := frame_of_two_stores (a := s.cpu.sp - 1#16) (a' := s.cpu.sp - 2#16) (hiByte v) (loByte v) s
      { s.cpu with sp := s.cpu.sp - 1#16 } { s.cpu with sp := s.cpu.sp - 2#16 } (by bv_omega)
    rw [push16_eq]
    exact ⟨fun b hb hb' htime => (load_finish_withCpu c _ u htime).trans (hload b hb hb' htime),
      fun ha ha' => (haway ha ha').finish c u⟩
  · obtain rfl := Host.Outcome.next.inj (hexec.symm.trans ht)
    have hsame := sameButCpu_timerAdvance (c - s.charged) s c
    exact ⟨fun b _ _ htime => hsame.load htime, fun _ _ => hsame.awayFromStore⟩

/-- LD (nn),SP: the low byte of SP at nn, the high byte at nn + 1 (R201). -/
theorem frame_of_storeSp {nn : Word} {s t : State} (ht : exec (.ld_mNn_sp nn) s = .next t) :
    (∀ b : Word, writeReaches s.mbc nn.toNat b.toNat = false → writeReaches s.mbc (nn + 1#16).toNat b.toNat = false →
      timeByte b.toNat = false → load b.toNat t = load b.toNat s) ∧
    (regionOf nn.toNat ≠ .io → regionOf (nn + 1#16).toNat ≠ .io → AwayFromStore s t) := by
  obtain rfl := Host.Outcome.next.inj ht
  obtain ⟨hload, haway⟩ := frame_of_two_stores (a := nn) (a' := nn + 1#16) (loByte s.cpu.sp) (hiByte s.cpu.sp) s
    s.cpu (memWrite nn (loByte s.cpu.sp) s).cpu (by bv_omega)
  exact ⟨fun b hb hb' htime => (load_finish_withCpu 20 _ _ htime).trans (hload b hb hb' htime),
    fun ha ha' => (haway ha ha').finish 20 _⟩

/-- Settles O27: one case for each number of stores. -/
theorem frameOfInstructionsThatStore : Obligations.FrameOfInstructionsThatStore :=
  ⟨fun _ _ _ _ => frame_of_storesAt, fun _ _ _ => frame_of_pushes, fun _ _ _ => frame_of_storeSp⟩

end Sys2Proof.Machine
end

section
/-! PROOFS. The frames of instructions on the CPU registers (spec/10_state.md section 1): what each change of registers leaves
alone, then the instructions by their forms. -/

namespace Sys2Proof.Machine

/-! ### What the outcome says of the registers -/

/-- The registers of a next state, if the outcome is one, meet P. -/
def NextCpu (P : Cpu → Prop) (x : Result) : Prop := ∀ t, x = .next t → P t.cpu

theorem nextCpu_complete {P : Cpu → Prop} {c : Nat} {s : State} (h : P s.cpu) : NextCpu P (complete c s) := by
  intro t ht
  obtain rfl := Host.Outcome.next.inj ht
  exact h

theorem nextCpu_whenCond {P : Cpu → Prop} {cc : Cond} {c c' : Nat} {f : State → State} {s : State}
    (hf : P (f s).cpu) (hs : P s.cpu) : NextCpu P (whenCond cc c c' f s) := by
  unfold whenCond
  split
  · exact nextCpu_complete hf
  · exact nextCpu_complete hs

/-! ### The frame of the registers -/

theorem get8_set16_other (p : Reg16) (q : Reg8) (x : Word) (u : Cpu) (h : q ∉ pairHalves p) :
    (u.set16 p x).get8 q = u.get8 q := by
  cases p <;> cases q
  case bc.b | bc.c | de.d | de.e | hl.h | hl.l => exact absurd (by decide) h
  all_goals rfl

theorem get8_setStack_other (p : StackPair) (q : Reg8) (x : Word) (u : Cpu) (h : q ∉ stackHalves p) :
    (u.setStack p x).get8 q = u.get8 q := by
  cases p <;> cases q
  case bc.b | bc.c | de.d | de.e | hl.h | hl.l | af.a => exact absurd (by decide) h
  all_goals rfl

/-- From u to v, the instruction i changes no register that is not its own. -/
structure CpuFrame (i : Instr) (u v : Cpu) : Prop where
  bytes : ∀ r, ¬ Destination i r → v.get8 r = u.get8 r
  sp : ¬ ChangesSp i → v.sp = u.sp
  pc : ¬ ChangesPc i → v.pc = u.pc
  arming : i ≠ .ei → i ≠ .di → i ≠ .reti → v.arming = u.arming
  waiting : i ≠ .halt → v.halted = u.halted ∧ v.haltBug = u.haltBug

namespace CpuFrame

variable {i : Instr} {u v w : Cpu} {s : State}

theorem refl (i : Instr) (u : Cpu) : CpuFrame i u u :=
  ⟨fun _ _ => rfl, fun _ => rfl, fun _ => rfl, fun _ _ _ => rfl, fun _ => ⟨rfl, rfl⟩⟩

theorem trans (h : CpuFrame i u v) (k : CpuFrame i v w) : CpuFrame i u w where
  bytes r hr := (k.bytes r hr).trans (h.bytes r hr)
  sp hi := (k.sp hi).trans (h.sp hi)
  pc hi := (k.pc hi).trans (h.pc hi)
  arming hei hdi hreti := (k.arming hei hdi hreti).trans (h.arming hei hdi hreti)
  waiting hi := ⟨(k.waiting hi).1.trans (h.waiting hi).1, (k.waiting hi).2.trans (h.waiting hi).2⟩

theorem set8 {r : Reg8} (hr : Destination i r) (x : Byte) : CpuFrame i u (u.set8 r x) where
  bytes q hq := get8_set8_other q r x u fun h => hq (h ▸ hr)
  sp _ := (set8_keeps r x u).2.1
  pc _ := (set8_keeps r x u).2.2
  arming _ _ _ := set8_arming r x u
  waiting _ := by cases r <;> exact ⟨rfl, rfl⟩

theorem set16 {p : Reg16} (hr : ∀ r ∈ pairHalves p, Destination i r) (hsp : p = .sp → ChangesSp i) (x : Word) :
    CpuFrame i u (u.set16 p x) where
  bytes q hq := get8_set16_other p q x u fun h => hq (hr q h)
  sp h := by
    cases p
    case sp => exact absurd (hsp rfl) h
    all_goals rfl
  pc _ := (set16_keeps p x u).2.2
  arming _ _ _ := set16_arming p x u
  waiting _ := by cases p <;> exact ⟨rfl, rfl⟩

theorem setStack {p : StackPair} (hr : ∀ r ∈ stackHalves p, Destination i r) (x : Word) :
    CpuFrame i u (u.setStack p x) where
  bytes q hq := get8_setStack_other p q x u fun h => hq (hr q h)
  sp _ := by cases p <;> rfl
  pc _ := by cases p <;> rfl
  arming _ _ _ := setStack_arming p x u
  waiting _ := by cases p <;> exact ⟨rfl, rfl⟩

/-- F is none of the registers of the frame. -/
theorem setF (h : CpuFrame i u v) (f : Byte) : CpuFrame i u { v with f := f } :=
  ⟨fun r hr => Eq.trans (by cases r <;> rfl) (h.bytes r hr), h.sp, h.pc, h.arming, h.waiting⟩

theorem setSp (h : CpuFrame i u v) (hi : ChangesSp i) (x : Word) : CpuFrame i u { v with sp := x } :=
  ⟨fun r hr => Eq.trans (by cases r <;> rfl) (h.bytes r hr), fun hn => absurd hi hn, h.pc, h.arming, h.waiting⟩

theorem setPc (h : CpuFrame i u v) (hi : ChangesPc i) (x : Word) : CpuFrame i u { v with pc := x } :=
  ⟨fun r hr => Eq.trans (by cases r <;> rfl) (h.bytes r hr), h.sp, fun hn => absurd hi hn, h.arming, h.waiting⟩

/-- HL of the forms that step it. -/
theorem stepHl (h : CpuFrame i u v) (hi : i ∈ [Instr.ld_a_mHli, .ld_a_mHld, .ld_mHli_a, .ld_mHld_a]) (x : Word) :
    CpuFrame i u (v.setHl x) :=
  h.trans (.set16 (p := .hl) (fun _ hr => .stepHl _ _ hi hr) nofun x)

theorem memWrite (a : Word) (x : Byte) : CpuFrame i s.cpu (memWrite a x s).cpu := by
  rw [memWrite_cpu]
  exact refl i s.cpu

theorem push16 (hi : ChangesSp i) (x : Word) : CpuFrame i s.cpu (push16 x s).cpu := by
  rw [push16_cpu]
  exact (refl i s.cpu).setSp hi _

theorem popPc (hsp : ChangesSp i) (hpc : ChangesPc i) : CpuFrame i s.cpu (popPc s).cpu :=
  ((refl i s.cpu).setSp hsp _).setPc hpc _

theorem callTo (hsp : ChangesSp i) (hpc : ChangesPc i) (a : Word) : CpuFrame i s.cpu (callTo a s).cpu :=
  (push16 hsp _).setPc hpc a

/-- CP alone of the operations leaves A (R241). -/
theorem aluStore {op : AluOp} (h : op ≠ .cp → Destination i .a) (x : Byte) : CpuFrame i s.cpu (aluStore op x s).cpu := by
  by_cases hop : op = .cp
  · subst hop
    exact (refl i s.cpu).setF _
  · exact (set8 (h hop) _).setF _

end CpuFrame

/-- The frame of every instruction, by its form: its registers change only by the changes above. -/
theorem exec_cpuFrame (i : Instr) (s : State) : NextCpu (CpuFrame i s.cpu) (exec i s) := by
  have same : CpuFrame i s.cpu s.cpu := .refl i s.cpu
  cases form_of i
  case ldRegReg => rw [exec_ldRegReg]; exact nextCpu_complete (.set8 (.ldRegReg ..) _)
  case ldRegImm => rw [exec_ldRegImm]; exact nextCpu_complete (.set8 (.ldRegImm ..) _)
  case ldRegHl => rw [exec_ldRegHl]; exact nextCpu_complete (.set8 (.ldRegHl ..) _)
  case ldHlReg => rw [exec_ldHlReg]; exact nextCpu_complete (.memWrite ..)
  case ldPairImm =>
    rw [exec_ldPairImm]
    exact nextCpu_complete (.set16 (fun _ hr => .ldPairImm _ _ _ hr) (fun hp => hp ▸ .ldImm _) _)
  case pushPair => rw [exec_pushPair]; exact nextCpu_complete (.push16 (.push _) _)
  case popPair =>
    rw [exec_popPair]
    exact nextCpu_complete ((same.setSp (.pop _) _).trans (.setStack (fun _ hr => .pop _ _ hr) _))
  case aluReg => rw [exec_aluReg]; exact nextCpu_complete (.aluStore (.aluReg _ _) _)
  case aluHl => rw [exec_aluHl]; exact nextCpu_complete (.aluStore (s := busTick s) (.aluHl _) _)
  case aluImm => rw [exec_aluImm]; exact nextCpu_complete (.aluStore (.aluImm _ _) _)
  case incReg => rw [exec_incReg]; exact nextCpu_complete ((CpuFrame.set8 (.incReg _) _).setF _)
  case decReg => rw [exec_decReg]; exact nextCpu_complete ((CpuFrame.set8 (.decReg _) _).setF _)
  case addHlPair =>
    rw [exec_addHlPair]
    exact nextCpu_complete ((CpuFrame.set16 (p := .hl) (fun _ hr => .addHl _ _ hr) nofun _).setF _)
  case incPair =>
    rw [exec_incPair]
    exact nextCpu_complete (.set16 (fun _ hr => .incPair _ _ hr) (fun hp => hp ▸ .inc) _)
  case decPair =>
    rw [exec_decPair]
    exact nextCpu_complete (.set16 (fun _ hr => .decPair _ _ hr) (fun hp => hp ▸ .dec) _)
  case rotReg => rw [exec_rotReg]; exact nextCpu_complete ((CpuFrame.set8 (.rotReg ..) _).setF _)
  case rotHl => rw [exec_rotHl]; exact nextCpu_complete ((CpuFrame.memWrite (s := busTick s) _ _).setF _)
  case bitReg => rw [exec_bitReg]; exact nextCpu_complete (same.setF _)
  case bitHl => rw [exec_bitHl]; exact nextCpu_complete (same.setF _)
  case resReg => rw [exec_resReg]; exact nextCpu_complete (.set8 (.resReg ..) _)
  case resHl => rw [exec_resHl]; exact nextCpu_complete (.memWrite (s := busTick s) ..)
  case setReg => rw [exec_setReg]; exact nextCpu_complete (.set8 (.setReg ..) _)
  case setHl => rw [exec_setHl]; exact nextCpu_complete (.memWrite (s := busTick s) ..)
  case jpCond => rw [exec_jpCond]; exact nextCpu_whenCond (same.setPc (.jpCond ..) _) same
  case jrCond => rw [exec_jrCond]; exact nextCpu_whenCond (same.setPc (.jrCond ..) _) same
  case callCond => rw [exec_callCond]; exact nextCpu_whenCond (.callTo (.callCond ..) (.callCond ..) _) same
  case retCond => rw [exec_retCond]; exact nextCpu_whenCond (.popPc (.retCond _) (.retCond _)) same
  case rstTo => rw [exec_rstTo]; exact nextCpu_complete (.callTo (.rst _) (.rst _) _)
  case call_nn => exact nextCpu_complete (.callTo (.call _) (.call _) _)
  case ret => exact nextCpu_complete (.popPc .ret .ret)
  case reti =>
    have hpop : CpuFrame .reti s.cpu (popPc s).cpu := .popPc .reti .reti
    exact nextCpu_complete ⟨hpop.bytes, hpop.sp, hpop.pc, fun _ _ h => absurd rfl h, hpop.waiting⟩
  case jp_nn => exact nextCpu_complete (same.setPc (.jp _) _)
  case jp_hl => exact nextCpu_complete (same.setPc .jpHl _)
  case jr_e => exact nextCpu_complete (same.setPc (.jr _) _)
  case ld_mNn_sp => exact nextCpu_complete (by rw [storeSp_cpu]; exact same)
  case ld_sp_hl => exact nextCpu_complete (same.setSp .ldHl _)
  case add_sp_e e =>
    exact nextCpu_complete ((same.setSp (.add _) (addSp s.cpu.sp e).1).setF (addSp s.cpu.sp e).2)
  case ld_hl_spE =>
    exact nextCpu_complete ((CpuFrame.set16 (p := .hl) (fun _ hr => .ldHlSp _ _ hr) nofun _).setF _)
  case ld_a_mBc => exact nextCpu_complete (.set8 (r := .a) .ldABc _)
  case ld_a_mDe => exact nextCpu_complete (.set8 (r := .a) .ldADe _)
  case ld_a_mNn => exact nextCpu_complete (.set8 (r := .a) (.ldANn _) _)
  case ldh_a_mN => exact nextCpu_complete (.set8 (r := .a) (.ldhAN _) _)
  case ldh_a_mC => exact nextCpu_complete (.set8 (r := .a) .ldhAC _)
  case daa => exact nextCpu_complete ((CpuFrame.set8 (r := .a) .daa _).setF _)
  case cpl => exact nextCpu_complete ((CpuFrame.set8 (r := .a) .cpl _).setF _)
  case rlca | rrca | rla | rra => exact nextCpu_complete ((CpuFrame.set8 (r := .a) (.rotA _ (by decide)) _).setF _)
  case scf | ccf => exact nextCpu_complete (same.setF _)
  case ld_mBc_a | ld_mDe_a | ldh_mN_a | ldh_mC_a | ld_mNn_a | ld_mHl_n => exact nextCpu_complete (.memWrite ..)
  case inc_mHl | dec_mHl => exact nextCpu_complete ((CpuFrame.memWrite (s := busTick s) _ _).setF _)
  case ld_mHli_a | ld_mHld_a => exact nextCpu_complete ((CpuFrame.memWrite _ _).stepHl (by decide) _)
  case ld_a_mHli => exact nextCpu_complete ((CpuFrame.set8 (r := .a) .ldAHli _).stepHl (by decide) _)
  case ld_a_mHld => exact nextCpu_complete ((CpuFrame.set8 (r := .a) .ldAHld _).stepHl (by decide) _)
  case halt =>
    refine nextCpu_complete ?_
    rw [haltEffect_eq]
    dsimp only
    split <;> exact ⟨same.bytes, same.sp, same.pc, same.arming, fun h => absurd rfl h⟩
  case di => exact nextCpu_complete ⟨same.bytes, same.sp, same.pc, fun _ h => absurd rfl h, same.waiting⟩
  case ei =>
    refine nextCpu_complete ?_
    rw [enableInterrupts_eq]
    dsimp only
    split_ifs <;> exact ⟨same.bytes, same.sp, same.pc, fun h => absurd rfl h, same.waiting⟩
  case stop => intro t ht; cases ht
  all_goals exact nextCpu_complete same

/-- Settles O28: the fields of the frame. -/
theorem frameOfRegisters : Obligations.FrameOfRegisters := by
  refine ⟨fun i r s t hr ht => (exec_cpuFrame i s t ht).bytes r hr, fun i s t ht => ?_⟩
  have frame := exec_cpuFrame i s t ht
  exact ⟨frame.sp, frame.pc, fun h1 h2 h3 => Prod.mk.inj (frame.arming h1 h2 h3), frame.waiting⟩

/-! ### The flags -/

theorem memWrite_flags (a : Word) (v : Byte) (s : State) : (memWrite a v s).cpu.f = s.cpu.f := by rw [memWrite_cpu]

theorem storeAStep_keepsFlags (d : Word) (s : State) : NextCpu (fun u => u.f = s.cpu.f) (storeAStep d s) :=
  nextCpu_complete (memWrite_flags s.cpu.hl s.cpu.a s)

theorem push16_flags (v : Word) (s : State) : (push16 v s).cpu.f = s.cpu.f := by rw [push16_cpu]

theorem popPc_flags (s : State) : (popPc s).cpu.f = s.cpu.f := by
  simp only [popPc, setPc, withCpu, pop16_cpu]

/-- The instructions that change no flag, by the list of them. -/
theorem exec_keepsFlags {i : Instr} (s : State) (h : KeepsFlags i) : NextCpu (fun u => u.f = s.cpu.f) (exec i s) := by
  cases h with
  | ldRegReg => rw [exec_ldRegReg]; exact nextCpu_complete (set8_keeps ..).1
  | ldRegImm => rw [exec_ldRegImm]; exact nextCpu_complete (set8_keeps ..).1
  | ldRegHl => rw [exec_ldRegHl]; exact nextCpu_complete (set8_keeps ..).1
  | ldHlReg => rw [exec_ldHlReg]; exact nextCpu_complete (memWrite_flags ..)
  | ldPairImm => rw [exec_ldPairImm]; exact nextCpu_complete (set16_keeps ..).2.1
  | incPair => rw [exec_incPair]; exact nextCpu_complete (set16_keeps ..).2.1
  | decPair => rw [exec_decPair]; exact nextCpu_complete (set16_keeps ..).2.1
  | resReg => rw [exec_resReg]; exact nextCpu_complete (set8_keeps ..).1
  | setReg => rw [exec_setReg]; exact nextCpu_complete (set8_keeps ..).1
  | resHl => rw [exec_resHl]; exact nextCpu_complete (memWrite_flags _ _ (busTick s))
  | setHl => rw [exec_setHl]; exact nextCpu_complete (memWrite_flags _ _ (busTick s))
  | push => rw [exec_pushPair]; exact nextCpu_complete (push16_flags ..)
  | call => exact nextCpu_complete (push16_flags ..)
  | rst => rw [exec_rstTo]; exact nextCpu_complete (push16_flags ..)
  | callCond => rw [exec_callCond]; exact nextCpu_whenCond (push16_flags ..) rfl
  | retCond => rw [exec_retCond]; exact nextCpu_whenCond (popPc_flags s) rfl
  | jpCond => rw [exec_jpCond]; exact nextCpu_whenCond rfl rfl
  | jrCond => rw [exec_jrCond]; exact nextCpu_whenCond rfl rfl
  | ldBcA | ldDeA | ldNnA | ldhNA | ldhCA | ldHlImm => exact nextCpu_complete (memWrite_flags ..)
  | ldHliA | ldHldA => exact storeAStep_keepsFlags _ s
  | ldNnSp => exact nextCpu_complete (congrArg Cpu.f (storeSp_cpu ..))
  | halt =>
    refine nextCpu_complete ?_
    rw [haltEffect_eq]
    dsimp only
    split <;> rfl
  | ei =>
    refine nextCpu_complete ?_
    rw [enableInterrupts_eq]
    dsimp only
    split_ifs <;> rfl
  | ret | reti => exact nextCpu_complete (popPc_flags s)
  | _ => exact nextCpu_complete rfl

/-- INC, DEC, BIT and CPL pack the old Cf. -/
theorem exec_keepsCarry {i : Instr} (s : State)
    (h : (∃ r, i = incReg r) ∨ (∃ r, i = decReg r) ∨ i = .inc_mHl ∨ i = .dec_mHl ∨ (∃ b r, i = bitReg b r) ∨
      (∃ b, i = bitHl b) ∨ i = .cpl) : NextCpu (fun u => flagC u.f = flagC s.cpu.f) (exec i s) := by
  obtain ⟨r, rfl⟩ | ⟨r, rfl⟩ | rfl | rfl | ⟨b, r, rfl⟩ | ⟨b, rfl⟩ | rfl := h
  · rw [exec_incReg]; exact nextCpu_complete (flagC_packFlags ..)
  · rw [exec_decReg]; exact nextCpu_complete (flagC_packFlags ..)
  · exact nextCpu_complete (flagC_packFlags ..)
  · exact nextCpu_complete (flagC_packFlags ..)
  · rw [exec_bitReg]; exact nextCpu_complete (flagC_packFlags ..)
  · rw [exec_bitHl]; exact nextCpu_complete (flagC_packFlags ..)
  · exact nextCpu_complete (flagC_packFlags ..)

/-- ADD HL, CPL, SCF and CCF pack the old Z. -/
theorem exec_keepsZero {i : Instr} (s : State) (h : (∃ p, i = addHlPair p) ∨ i = .cpl ∨ i = .scf ∨ i = .ccf) :
    NextCpu (fun u => flagZ u.f = flagZ s.cpu.f) (exec i s) := by
  obtain ⟨p, rfl⟩ | rfl | rfl | rfl := h
  · rw [exec_addHlPair]; exact nextCpu_complete (flagZ_packFlags ..)
  all_goals exact nextCpu_complete (flagZ_packFlags ..)

/-- DAA packs the old N. -/
theorem exec_daa_keepsNegative (s : State) : NextCpu (fun u => flagN u.f = flagN s.cpu.f) (exec .daa s) := by
  have hdaa : flagN (daa s.cpu.a s.cpu.f).2 = flagN s.cpu.f := flagN_packFlags ..
  exact nextCpu_complete hdaa

/-- Settles O29: one list of instructions for each flag. -/
theorem frameOfFlags : Obligations.FrameOfFlags := by
  intro i s t ht
  refine ⟨fun h => exec_keepsFlags s h t ht, fun h => exec_keepsCarry s h t ht, fun h => exec_keepsZero s h t ht, ?_⟩
  rintro rfl
  exact exec_daa_keepsNegative s t ht

end Sys2Proof.Machine
end

section
/-! PROOFS. What a CPU write stores, the image gives back (spec/20_memory.md R85, R86, R93). -/

namespace Sys2Proof.Machine

/-- Where nothing blocks, a CPU write is routed by its region (R85). -/
theorem cpuWrite_of_unblocked {a : Word} {s : State} (v : Byte) (hfree : s.dma.active = false)
    (hppu : ppuBlocks a s = false) : cpuWrite a v s = routeWrite a v s := by
  have hdma : dmaBlocks a s = false := by rw [dmaBlocks, hfree, Bool.false_and]
  simp only [cpuWrite, hdma, hppu, Bool.false_eq_true, if_false]

/-- The regions whose cells hold whole bytes. -/
theorem regionOf_wholeByte {n : Nat}
    (hn : (0x8000 ≤ n ∧ n ≤ 0x9FFF) ∨ (0xC000 ≤ n ∧ n ≤ 0xFE9F) ∨ 0xFF80 ≤ n) :
    regionOf n ∈ [Region.vram, .wram, .echo, .oam, .hram, .ie] := by
  rw [regionOf_eq_ite_le]
  split_ifs <;> simp <;> omega

/-- Video RAM, work RAM, its echo, OAM, HRAM and IE give back the byte whole. -/
theorem load_routeWrite_same {a : Word} (v : Byte) {s : State} (hwf : Memory.wf s.mem = true)
    (ha : regionOf a.toNat ∈ [Region.vram, .wram, .echo, .oam, .hram, .ie]) :
    load a.toNat (routeWrite a v s) = v := by
  have hstore (k : Nat) : Memory.read (storeMem k v s).mem k = v := Memory.read_write_same s.mem k v hwf
  unfold load routeWrite
  cases hr : regionOf a.toNat
  case vram | wram | oam | hram => exact hstore a.toNat
  case echo => exact hstore (a.toNat - 0x2000)
  case ie => rfl
  case romFixed | romBanked | xram | hole | io => exact absurd (hr ▸ ha) (by decide)

/-- Cartridge RAM gives back what its cell holds (R93). -/
theorem load_routeWrite_xram {a : Word} (v : Byte) (s : State) (ha : regionOf a.toNat = .xram) :
    load a.toNat (routeWrite a v s) = xramRead s.mbc (xramWrite s.mbc s.xram a.toNat v) a.toNat := by
  simp only [load, routeWrite, ha]

/-- The cell of an address while cartridge RAM is enabled (R93). -/
theorem xramCell_of_enabled {m : Mbc} (a : Nat) (hon : m.ramEnabled = true) : xramCell m a =
    if m.header.mbcType = .mbc2 then some ((a - 0xA000) % 0x200)
    else if m.header.ramBanks = 0 then none else some (m.ramBank * 0x2000 + (a - 0xA000)) := by
  simp only [xramCell, hon]
  cases m.header.mbcType <;> rfl

/-- An enabled cell gives the byte back, an MBC2's the low nibble under ones; without RAM there is no cell (R93). -/
theorem xramRead_xramWrite {m : Mbc} {xram : Memory} (a : Nat) (v : Byte) (hon : m.ramEnabled = true)
    (hwf : Memory.wf xram = true) : xramRead m (xramWrite m xram a v) a =
      if m.header.mbcType = .mbc2 then 0xF0#8 ||| (v &&& 0x0F#8)
      else if m.header.ramBanks = 0 then 0xFF#8 else v := by
  simp only [xramRead, xramWrite, xramCell_of_enabled a hon]
  by_cases hmbc2 : m.header.mbcType = .mbc2
  · simp only [if_pos hmbc2, Memory.read_write_same _ _ _ hwf, BitVec.and_assoc, BitVec.and_self]
  · simp only [if_neg hmbc2]
    by_cases hbanks : m.header.ramBanks = 0
    · simp only [if_pos hbanks]
    · simp only [if_neg hbanks, Memory.read_write_same _ _ _ hwf]

/-- Settles O34: the route of the write, then the read of the cell it names. -/
theorem memoryReadsBack : Obligations.MemoryReadsBack := by
  intro a v s hmem hxram hfree hppu
  rw [cpuWrite_of_unblocked v hfree hppu]
  refine ⟨fun ha => load_routeWrite_same v hmem (regionOf_wholeByte ha), fun hlo hhi hon => ?_⟩
  rw [load_routeWrite_xram v s ((regionOf_cartridge_range _).1.2 ⟨hlo, hhi⟩), xramRead_xramWrite a.toNat v hon hxram]
  exact ⟨fun h => if_pos h, fun h h' => by rw [if_neg h, if_neg h'], fun h h' => by rw [if_neg h, if_pos h']⟩

end Sys2Proof.Machine
end

section
/-! PROOFS. The time of a line and of a frame (spec/61_ppu.md sections 1 and 2, R400 to R402): with the LCD on, LY and the
scanline counter count the ticks of a frame. -/

namespace Sys2Proof.Machine

/-- The LCD is on and the counters are in their ranges. -/
structure Ppu.Running (p : Ppu) : Prop where
  on : p.lcdc.getLsbD 7 = true
  line : p.ly.toNat ≤ 153
  budgetLow : 1 ≤ p.budget
  budgetHigh : p.budget ≤ 456

/-- How many ticks of its frame a running PPU has done: 456 for each line above, and those of the line. -/
def Ppu.frameTicks (p : Ppu) : Nat := 456 * p.ly.toNat + (456 - p.budget)

/-- The ticks of the frame give the line and the counter back. -/
theorem Ppu.Running.frameTicks_iff {p : Ppu} (h : p.Running) (line budget : Nat) (hlow : 1 ≤ budget)
    (hhigh : budget ≤ 456) :
    p.frameTicks = 456 * line + (456 - budget) ↔ p.ly.toNat = line ∧ p.budget = budget := by
  obtain ⟨-, -, hbudgetLow, hbudgetHigh⟩ := h
  unfold Ppu.frameTicks
  omega

theorem Ppu.Running.frameTicks_lt {p : Ppu} (h : p.Running) : p.frameTicks < 70224 := by
  obtain ⟨-, hline, hbudgetLow, -⟩ := h
  unfold Ppu.frameTicks
  omega

/-- A tick of a running PPU, by whether its line goes on or ends. -/
theorem ppuTick_counters (mem : Memory) {x : Ppu × Irq} (h : x.1.Running) :
    (ppuTick mem x).1.ly.toNat = (if x.1.budget = 1 then (x.1.ly.toNat + 1) % 154 else x.1.ly.toNat) ∧
    (ppuTick mem x).1.budget = if x.1.budget = 1 then 456 else x.1.budget - 1 := by
  obtain ⟨p, q⟩ := x
  obtain ⟨hon, hline, hbudgetLow, -⟩ := h
  dsimp only at hon hline hbudgetLow ⊢
  by_cases hend : p.budget = 1
  · rw [ppuTick_lineEnd mem q hon hend hline, if_pos hend, if_pos hend]
    obtain ⟨hbudget, hly, -⟩ := updateStat_keeps (p.nextLine mem, if (p.ly.toNat + 1) % 154 = 144 then q.raise .vblank else q)
    rw [hbudget, hly]
    exact ⟨Nat.mod_eq_of_lt (by omega), rfl⟩
  · rw [ppuTick_withinLine mem q hon (by omega), if_neg hend, if_neg hend]
    obtain ⟨hbudget, hly, -⟩ := updateStat_keeps ({ p with budget := p.budget - 1 }, q)
    exact ⟨congrArg _ hly, hbudget⟩

theorem running_ppuTick (mem : Memory) {x : Ppu × Irq} (h : x.1.Running) : (ppuTick mem x).1.Running := by
  obtain ⟨hly, hbudget⟩ := ppuTick_counters mem h
  have hlcdc := ((programmed_eq_iff _ _).1 (ppuTick_frame mem x).1).1
  obtain ⟨hon, hline, hbudgetLow, hbudgetHigh⟩ := h
  refine ⟨by rw [hlcdc, hon], ?_, ?_, ?_⟩
  · split at hly <;> omega
  · split at hbudget <;> omega
  · split at hbudget <;> omega

/-- Each tick is one tick of the frame. -/
theorem frameTicks_ppuTick (mem : Memory) {x : Ppu × Irq} (h : x.1.Running) :
    (ppuTick mem x).1.frameTicks = (x.1.frameTicks + 1) % 70224 := by
  obtain ⟨hly, hbudget⟩ := ppuTick_counters mem h
  obtain ⟨-, hline, hbudgetLow, hbudgetHigh⟩ := h
  unfold Ppu.frameTicks
  by_cases hend : x.1.budget = 1
  · rw [hly, hbudget, if_pos hend, if_pos hend, hend]
    omega
  · rw [hly, hbudget, if_neg hend, if_neg hend]
    omega

theorem frameTicks_iterate (mem : Memory) (k : Nat) {x : Ppu × Irq} (h : x.1.Running) :
    (iterate (ppuTick mem) k x).1.Running ∧
    (iterate (ppuTick mem) k x).1.frameTicks = (x.1.frameTicks + k) % 70224 := by
  induction k generalizing x with
  | zero => exact ⟨h, (Nat.mod_eq_of_lt h.frameTicks_lt).symm⟩
  | succ k ih =>
    obtain ⟨hrunning, hticks⟩ := ih (running_ppuTick mem h)
    refine ⟨hrunning, hticks.trans ?_⟩
    rw [frameTicks_ppuTick mem h, Nat.mod_add_mod, Nat.add_right_comm, Nat.add_assoc]

/-- Settles O46: k ticks later the frame stands k ticks on, modulo its 70224. -/
theorem linesAndFramesTakeTheirTime : Obligations.LinesAndFramesTakeTheirTime := by
  intro mem p q hok hon
  obtain ⟨hline, hlow, hhigh⟩ := And.intro hok.line (And.intro hok.budgetLow hok.budgetHigh)
  have hp : p.Running := ⟨hon, hline, hlow, hhigh⟩
  have after (k line budget : Nat) (hlow : 1 ≤ budget) (hhigh : budget ≤ 456)
      (hk : (p.frameTicks + k) % 70224 = 456 * line + (456 - budget)) :
      (iterate (ppuTick mem) k (p, q)).1.ly.toNat = line ∧ (iterate (ppuTick mem) k (p, q)).1.budget = budget := by
    obtain ⟨hrunning, hticks⟩ := frameTicks_iterate mem k (x := (p, q)) hp
    exact (hrunning.frameTicks_iff line budget hlow hhigh).1 (hticks.trans hk)
  have hticks : p.frameTicks = 456 * p.ly.toNat + (456 - p.budget) := rfl
  have hend := after p.budget ((p.ly.toNat + 1) % 154) 456 (by omega) (by omega) (by omega)
  have hframe := after 70224 p.ly.toNat p.budget hlow hhigh (by omega)
  refine ⟨fun k hk => ?_, hend.2, hend.1, hframe.2, BitVec.eq_of_toNat_eq hframe.1⟩
  have hwithin := after k p.ly.toNat (p.budget - k) (by omega) (by omega) (by omega)
  exact ⟨hwithin.2, BitVec.eq_of_toNat_eq hwithin.1⟩

end Sys2Proof.Machine
end

section
/-! PROOFS. Row 0 of the framebuffer is never drawn (spec/61_ppu.md section 2, R402): the end of a line draws the line LY
advances to, which row 0 is not; every other operation leaves the pictures alone. -/

namespace Sys2Proof.Machine

/-- Row 0 of the two pictures. -/
def Ppu.rowZero (p : Ppu) : Option (List Rgb) × Option (List (BitVec 2)) := (p.fb[0]?, p.code[0]?)

def State.rowZero (s : State) := s.ppu.rowZero

/-! ### The PPU -/

theorem rowZero_rasterize (mem : Memory) {ly : Nat} (p : Ppu) (hly : ly ≠ 0) :
    (p.rasterize mem ly).rowZero = p.rowZero :=
  congrArg₂ Prod.mk (List.getElem?_set_ne hly) (List.getElem?_set_ne hly)

/-- LY comes to 0 by the wrap of line 154 alone, which draws nothing. -/
theorem rowZero_lineEnd (mem : Memory) (x : Ppu × Irq) (hly : x.1.ly.toNat ≤ 153) :
    (lineEnd mem x).1.rowZero = x.1.rowZero := by
  have hnext : (x.1.ly + 1#8).toNat ≠ 0 := by bv_omega
  unfold lineEnd
  dsimp only
  split
  · exact rowZero_rasterize mem _ hnext
  · split
    · rfl
    · split <;> rfl

theorem rowZero_updateStat (x : Ppu × Irq) : (updateStat x).1.rowZero = x.1.rowZero := by
  rw [updateStat_ppu]
  rfl

theorem rowZero_ppuTick (mem : Memory) (x : Ppu × Irq) (h : PpuOk x.1) : (ppuTick mem x).1.rowZero = x.1.rowZero := by
  cases hon : x.1.lcdc.getLsbD 7 with
  | false => rw [ppuTick_of_off mem x hon]
  | true =>
    rw [ppuTick_of_on mem x hon, rowZero_updateStat]
    split
    · exact rowZero_lineEnd mem x h.line
    · rfl

theorem rowZero_ppuAdvance (c : Nat) {s : State} (h : Legal s) : (ppuAdvance c s).rowZero = s.rowZero :=
  (iterate_keeps (fun x : Ppu × Irq => (PpuOk x.1 ∧ IrqOk x.2) ∧ x.1.rowZero = s.rowZero) (ppuTick s.mem)
    (fun x ⟨⟨hp, hq⟩, hrow⟩ => ⟨ppuTick_ok s.mem x hp hq, (rowZero_ppuTick s.mem x hp).trans hrow⟩) c (s.ppu, s.irq)
    ⟨⟨h.ppu, h.irq⟩, rfl⟩).2

/-! ### The bus and the instructions -/

theorem rowZero_writeLcdc (v : Byte) (p : Ppu) : (p.writeLcdc v).rowZero = p.rowZero := by
  unfold Ppu.writeLcdc
  split <;> rfl

/-- A write to a register of the PPU changes no picture. -/
theorem rowZero_ioWrite (r : IoReg) (a : Nat) (v : Byte) (s : State) : (ioWrite r a v s).rowZero = s.rowZero := by
  cases r
  case sc => unfold ioWrite writeSc; dsimp only; split <;> rfl
  case waveRam => unfold ioWrite; dsimp only; split <;> rfl
  case lcdc => exact rowZero_writeLcdc v s.ppu
  all_goals rfl

theorem AwayFromStore.rowZero {s t : State} (h : AwayFromStore s t) : t.rowZero = s.rowZero := by
  rw [h]
  rfl

theorem rowZero_memWrite (a : Word) (v : Byte) (s : State) : (memWrite a v s).rowZero = s.rowZero := by
  by_cases ha : regionOf a.toNat = .io
  · obtain h | h := cpuWrite_eq_or a v (busTick s)
    · rw [memWrite, h]
      rfl
    · rw [memWrite, h]
      simp only [routeWrite, ha]
      exact rowZero_ioWrite _ _ v (busTick s)
  · exact (awayFromStore_memWrite v s ha).rowZero

theorem rowZero_iterate_busTick (k : Nat) (s : State) : (iterate busTick k s).rowZero = s.rowZero :=
  (sameButCpu_iterate_busTick k s).awayFromStore.rowZero

theorem rowZero_push16 (v : Word) (s : State) : (push16 v s).rowZero = s.rowZero :=
  (rowZero_memWrite _ _ (setSp _ (pushByte (hiByte v) s))).trans (rowZero_memWrite _ _ (setSp _ s))

theorem rowZero_storeSp (nn : Word) (s : State) : (storeSp nn s).rowZero = s.rowZero :=
  (rowZero_memWrite ..).trans (rowZero_memWrite ..)

/-- An instruction changes the PPU by its stores alone. -/
theorem rowZero_exec {i : Instr} {s t : State} (ht : exec i s = .next t) : t.rowZero = s.rowZero := by
  obtain hnone | ⟨a, hbyte⟩ | hpush | ⟨nn, rfl⟩ | ⟨n, rfl⟩ := storing_cases i s
  · obtain ⟨k, c, ⟨u, hexec, -⟩, -⟩ := readsOnly_of_storesNothing s hnone
    obtain rfl := Host.Outcome.next.inj (hexec.symm.trans ht)
    exact rowZero_iterate_busTick k s
  · obtain ⟨k, v, u, hexec, -⟩ := storesByte_of_storesAt hbyte
    obtain rfl := Host.Outcome.next.inj (hexec.symm.trans ht)
    exact (rowZero_memWrite a v _).trans (rowZero_iterate_busTick k s)
  · obtain ⟨c, ⟨v, u, hexec, -, -⟩ | ⟨hexec, -⟩⟩ := pushesWord_of_pushes s hpush
    · obtain rfl := Host.Outcome.next.inj (hexec.symm.trans ht)
      exact rowZero_push16 v s
    · obtain rfl := Host.Outcome.next.inj (hexec.symm.trans ht)
      rfl
  · obtain rfl := Host.Outcome.next.inj ht
    exact rowZero_storeSp nn s
  · cases ht

/-! ### The step -/

theorem next_of_mapNext {f : State → State} {x : Result} {t : State} (h : mapNext f x = .next t) :
    ∃ u, x = .next u ∧ t = f u := by
  cases x with
  | next u => exact ⟨u, rfl, (Host.Outcome.next.inj h).symm⟩
  | fault _ => cases h
  | refused _ => cases h

theorem rowZero_fetchInstr (s : State) : (fetchInstr s).2.rowZero = s.rowZero := by
  unfold fetchInstr; dsimp only; split <;> rfl

theorem rowZero_applyArmed (armed : Bool) (i : Instr) (s : State) : (applyArmed armed i s).rowZero = s.rowZero := by
  unfold applyArmed; split <;> rfl

theorem rowZero_cpuStep {s t : State} (ht : cpuStep s = .next t) : t.rowZero = s.rowZero := by
  unfold cpuStep at ht
  dsimp only at ht
  split at ht
  · obtain rfl := Host.Outcome.next.inj ht
    rfl
  · obtain ⟨u, hexec, rfl⟩ := next_of_mapNext ht
    rw [rowZero_applyArmed, rowZero_exec hexec, rowZero_fetchInstr]
    rfl

theorem rowZero_feedPeers {s : State} (h : Legal s) : (feedPeers s).rowZero = s.rowZero := by
  refine Eq.trans ?_ (rowZero_ppuAdvance s.charged h)
  unfold feedPeers dmaAdvance
  split <;> rfl

theorem rowZero_takeInterrupt (n : Source) (s : State) : (takeInterrupt n s).rowZero = s.rowZero :=
  rowZero_push16 s.cpu.pc { s with cpu := { s.cpu with ime := false }, irq := s.irq.acknowledge n, charged := 0 }

theorem rowZero_serviceInterrupts {s : State} (h : Legal s) : (serviceInterrupts s).rowZero = s.rowZero := by
  unfold serviceInterrupts
  split
  · rfl
  · split
    · exact (rowZero_feedPeers (legal_takeInterrupt _ _ (legal_wake s h))).trans (rowZero_takeInterrupt _ (wake s))
    · rfl

theorem rowZero_afterStep {s : State} (h : Legal s) : (afterStep s).rowZero = s.rowZero :=
  (rowZero_serviceInterrupts (legal_feedPeers s h)).trans (rowZero_feedPeers h)

theorem rowZero_setJoypad (j : Byte) (s : State) : (setJoypad j s).rowZero = s.rowZero := by
  unfold setJoypad; dsimp only; split <;> rfl

/-- Taking a frame clears the signal, not the picture (R380). -/
theorem rowZero_hostAction (s : State) (act : HostAction) : (hostAction s act).rowZero = s.rowZero := by
  unfold hostAction
  split
  · rfl
  · cases act with
    | setJoypad j => exact rowZero_setJoypad j s
    | pause => dsimp only; split <;> rfl
    | resume => dsimp only; split <;> rfl
    | _ => rfl

theorem rowZero_hostTurn (s : State) : (hostTurn s).rowZero = s.rowZero := by
  unfold hostTurn
  split
  · rfl
  · refine List.foldlRecOn _ hostAction (motive := fun t => t.rowZero = s.rowZero) ?_
      fun t ht act _ => (rowZero_hostAction t act).trans ht
    rfl

theorem rowZero_step {s t : State} (h : Legal s) (ht : step s = .next t) : t.rowZero = s.rowZero := by
  have hturn := rowZero_hostTurn s
  have hlegal := legal_hostTurn s h
  unfold step loopPass at ht
  dsimp only at ht
  split at ht
  · obtain rfl := Host.Outcome.next.inj ht
    rfl
  · split at ht
    · obtain ⟨u, hcpu, rfl⟩ := next_of_mapNext ht
      rw [rowZero_afterStep (legal_cpuStep _ hlegal u hcpu), rowZero_cpuStep hcpu, hturn]
    · obtain rfl := Host.Outcome.next.inj ht
      exact hturn
    · obtain rfl := Host.Outcome.next.inj ht
      exact hturn

/-- Settles O47. -/
theorem rowZeroIsNeverDrawn : Obligations.RowZeroIsNeverDrawn :=
  fun _ _ hinv ht => Prod.mk.inj (rowZero_step hinv.legal ht)

end Sys2Proof.Machine
end
